-- ==== Sys2Proof/Word.lean ====
section
/-! DEFINITION. The widths and small shapes everything else is written in: a byte, a host word address, a group of
four bit-times. -/

namespace Sys2Proof

/-- One byte: what the eight data lanes carry in one bit-time (00_scope.md, glossary). -/
abbrev Byte := BitVec 8

/-- A host word address, `ADR_W` = 21 bits (00_scope.md R6). -/
abbrev Addr := BitVec 21

/-- The four bit-times (phases 0 to 3, in time order) of one `sys` cycle: `GEAR` = 4 (00_scope.md R6, 43_phy.md R171). -/
structure Quad (α : Type) where
  p0 : α
  p1 : α
  p2 : α
  p3 : α
deriving DecidableEq, Repr, Inhabited

/-- The four bit-times in time order. -/
def Quad.toList {α : Type} (q : Quad α) : List α := [q.p0, q.p1, q.p2, q.p3]

/-- The same value in all four bit-times of a cycle. -/
def Quad.same {α : Type} (x : α) : Quad α := ⟨x, x, x, x⟩

/-- A value computed in each bit-time. -/
def Quad.map {α β : Type} (f : α → β) (q : Quad α) : Quad β := ⟨f q.p0, f q.p1, f q.p2, f q.p3⟩

end Sys2Proof
end

