-- ==== Sys2Proof/Machine/Params.lean ====
section
/-! DEFINITION. The build-time constants of 00_scope.md R6 that the spec gives (from the source or decided). They stand
in this folder so that a later repair may change a value the source does not audit (D34). -/

namespace Sys2Proof.Machine

/-- `CTI_CLASSIC` (30_encoding.md R62). -/
def ctiClassic : BitVec 3 := 0b000#3

/-- `CTI_INCR`, the one code the hardware tests for (30_encoding.md R62). -/
def ctiIncr : BitVec 3 := 0b010#3

/-- The end-of-burst code the pseudo-lines use (30_encoding.md R79); the hardware treats it like any other code but
`ctiIncr`. -/
def ctiEnd : BitVec 3 := 0b111#3

/-- `T_TIMEOUT`: the timeout ceiling (00_scope.md R6). -/
def tTimeout : BitVec 6 := 20#6

/-- `VALID_BIT`: which bit of `rwds_i` is the valid-strobe bit (30_encoding.md R74). -/
def validBit : Nat := 3

/-- `RD_OFF`: offset of the read-data window in `{sr_in, dq_i}` (30_encoding.md R73). -/
def rdOff : Nat := 16

/-- `ACK_ON_ABORT_CYCLE`: whether a strobe in the abort cycle still acknowledges (D16). -/
def ackOnAbortCycle : Bool := true

/-- `N_LAT`: the number of latency-wait states (00_scope.md R6). -/
def nLat : Nat := 5

/-- `N_HOLD`: the number of hold-wait states (00_scope.md R6). -/
def nHold : Nat := 15

end Sys2Proof.Machine
end

