-- ==== Sys2Proof/Config.lean ====
section
/-! DEFINITION. What lies outside the machine: the inputs of one `sys` cycle, the parameters the spec leaves OPEN
(00_scope.md R6), and the free values. An OPEN parameter and a free value is a constant without a body, so that no proof
can know it. The constants the spec does give are in Machine/Params.lean. -/

namespace Sys2Proof

/-- The two groups of delay lines: data/strobe (`dly_io`) and clock (`dly_clk`) (43_phy.md R181). -/
inductive DlyGroup where
  | io
  | clk
deriving DecidableEq, Repr, Inhabited

/-- A delay-control record `{loadn, move, direction}` (30_encoding.md R75). -/
structure DlyRecord where
  loadn : Bool
  move : Bool
  direction : Bool
deriving DecidableEq, Repr, Inhabited

/-- What the nine bidirectional lanes carry in one bit-time: `DQ[7:0]` and `RWDS`. -/
structure LaneSample where
  dq : Byte
  rwds : Bool
deriving DecidableEq, Repr, Inhabited

/-- The inputs of one `sys` cycle (00_scope.md R11, R12). `rx` holds the samples of the pins `DQ` and `RWDS` in the four
bit-times of the cycle, whoever drives them; they are free (43_phy.md R190). -/
structure Inputs where
  rst : Bool
  cyc : Bool
  stb : Bool
  we : Bool
  adr : Addr
  datW : BitVec 32
  sel : BitVec 4
  cti : BitVec 3
  rx : Quad LaneSample
  dlyIo : DlyRecord
  dlyClk : DlyRecord
deriving DecidableEq, Repr, Inhabited

/-- The three I/O clocks that may clock the synchronizers (43_phy.md R176, R187). -/
inductive IoClock where
  | sys90
  | sys2x
  | sys2x90
deriving DecidableEq, Repr, Inhabited

namespace Config

/-- `HAS_RSTN`: whether the optional device reset line exists (OPEN, D27). -/
opaque hasRstn : Bool

/-- `L_TX`: bit-times from `dq_o`, `rwds_o` to the pins (OPEN, D23). -/
opaque lTx : Nat

/-- `L_RX`: bit-times from the pins to `dq_i`, `rwds_i` (OPEN, D23). -/
opaque lRx : Nat

/-- `L_CTL`: bit-times from `csn`, `dq_oe`, `rwds_oe` to the pins (OPEN, D23, D24). -/
opaque lCtl : Nat

/-- `L_CK`: bit-times from the clock gate to the clock pins (OPEN, D23, D25). -/
opaque lCk : Nat

/-- `DLY_TAPS` less one. -/
opaque dlyTapsLessOne : Nat

/-- `DLY_TAPS`: the number of positions of a delay line, at least 1 (OPEN, D26). -/
def dlyTaps : Nat := dlyTapsLessOne + 1

/-- Which I/O clock clocks the three synchronizer stages: not stated (43_phy.md R176, D24). -/
opaque syncClock : IoClock

/-- `DLY_LOAD`, the load position of the lines of a group, before it is cut to the range (U9: any value in range). -/
opaque dlyLoad : DlyGroup → Nat

/-- The position of a line of the group that is stepped beyond an end in cycle `n`, before it is cut to the range (U9:
any value; it may stay, wrap or be ignored). -/
opaque dlyBeyond : DlyGroup → Nat → Nat

/-- The inputs of cycle `n` where no stimulus gives them (43_phy.md R190, D37: free in every cycle). -/
opaque freeInputs : Nat → Inputs

end Config
end Sys2Proof
end

