-- ==== Sys2Proof/Syntax.lean ====
section
/-! DEFINITION. The instructions: one constructor per row of spec/opcode_table.json, and the 27 states of the state
register. A STATE row is the micro-operation of one state (41_sequencer.md); a HOSTREQ row is the request on the host bus
in a cycle (30_encoding.md R61); CA48 and SRLOAD rows are the words the sequencer emits and loads (R63 to R68); DLYCTL rows
are the operations of the delay lines (R75). -/

namespace Sys2Proof

/-- The 27 values of the state register (30_encoding.md R76). -/
inductive SeqState where
  | idle
  | caSend
  | caWait
  | latencyWait
  | latencyWait0
  | latencyWait1
  | latencyWait2
  | latencyWait3
  | readWrite
  | readAck
  | clkOff
  | cleanup
  | holdWait
  | holdWait0
  | holdWait1
  | holdWait2
  | holdWait3
  | holdWait4
  | holdWait5
  | holdWait6
  | holdWait7
  | holdWait8
  | holdWait9
  | holdWait10
  | holdWait11
  | holdWait12
  | holdWait13
deriving DecidableEq, Repr, Inhabited

/-- One constructor per row of the opcode table. -/
inductive Instr where
  /-- `WR.INCR` (R153): a write beat with more to follow. -/
  | wrIncr (adr : Addr) (datW : BitVec 32) (sel : BitVec 4)
  /-- `RD.INCR` (R154): a read beat with more to follow. -/
  | rdIncr (adr : Addr)
  /-- `WR` (R151): a single write or the last beat of a burst write; `cti` is any code but `CTI_INCR`. -/
  | wr (adr : Addr) (datW : BitVec 32) (sel : BitVec 4) (cti : BitVec 3)
  /-- `RD` (R152): a single read or the last beat of a burst read; `cti` is any code but `CTI_INCR`. -/
  | rd (adr : Addr) (cti : BitVec 3)
  /-- `IDLE` (R111). -/
  | idle
  /-- `CA-SEND` (R112). -/
  | caSend
  /-- `CA-WAIT` (R113). -/
  | caWait
  /-- `LATENCY-WAIT` (R114). -/
  | latencyWait
  /-- `LATENCY-WAIT0` (R115). -/
  | latencyWait0
  /-- `LATENCY-WAIT1` (R116). -/
  | latencyWait1
  /-- `LATENCY-WAIT2` (R117). -/
  | latencyWait2
  /-- `LATENCY-WAIT3` (R118). -/
  | latencyWait3
  /-- `READ-WRITE` (R119). -/
  | readWrite
  /-- `READ-ACK` (R120). -/
  | readAck
  /-- `CLK-OFF` (R121). -/
  | clkOff
  /-- `CLEANUP` (R122). -/
  | cleanup
  /-- `HOLD-WAIT` (R123). -/
  | holdWait
  /-- `HOLD-WAIT0` (R124). -/
  | holdWait0
  /-- `HOLD-WAIT1` (R125). -/
  | holdWait1
  /-- `HOLD-WAIT2` (R126). -/
  | holdWait2
  /-- `HOLD-WAIT3` (R127). -/
  | holdWait3
  /-- `HOLD-WAIT4` (R128). -/
  | holdWait4
  /-- `HOLD-WAIT5` (R129). -/
  | holdWait5
  /-- `HOLD-WAIT6` (R130). -/
  | holdWait6
  /-- `HOLD-WAIT7` (R131). -/
  | holdWait7
  /-- `HOLD-WAIT8` (R132). -/
  | holdWait8
  /-- `HOLD-WAIT9` (R133). -/
  | holdWait9
  /-- `HOLD-WAIT10` (R134). -/
  | holdWait10
  /-- `HOLD-WAIT11` (R135). -/
  | holdWait11
  /-- `HOLD-WAIT12` (R136). -/
  | holdWait12
  /-- `HOLD-WAIT13` (R137). -/
  | holdWait13
  /-- `CA.RD` (R65): the command word of a read. -/
  | caRd (adr : Addr)
  /-- `CA.WR` (R65): the command word of a write. -/
  | caWr (adr : Addr)
  /-- `SRLOAD.CA` (R66): the load of `sr_out` with a command word. -/
  | srloadCa (ca : BitVec 48)
  /-- `SRLOAD.WD` (R67): the load of `sr_out` with a write word. -/
  | srloadWd (datW : BitVec 32)
  /-- `SRLOAD.WM` (R68): the load of `sr_rwds_out` with a mask, `m` = `~sel`. -/
  | srloadWm (m : BitVec 4)
  /-- `DLY.LOAD` (R155); `move`, `direction`, `movePrev` are any. -/
  | dlyLoad (g : DlyGroup) (move direction movePrev : Bool)
  /-- `DLY.UP` (R156). -/
  | dlyUp (g : DlyGroup)
  /-- `DLY.DOWN` (R157). -/
  | dlyDown (g : DlyGroup)
  /-- `DLY.HOLD` (R158): `loadn` = 1 and no rising edge of `move`. -/
  | dlyHold (g : DlyGroup) (move direction movePrev : Bool)
deriving DecidableEq, Repr, Inhabited

end Sys2Proof
end

