-- ==== Sys2Proof/WellFormed.lean ====
section
/-! DEFINITION. Which instruction terms stand for an instruction of the table. Two checks: a request named `WR` or `RD`
carries a burst-type code other than `CTI_INCR` (30_encoding.md R61; with that code it is `WR.INCR` or `RD.INCR`), and a
`DLY.HOLD` has no rising edge of `move` (R75). Every other operand may take any value (R77). -/

namespace Sys2Proof

/-- The well-formed instructions. -/
def Instr.wellFormed : Instr → Bool
  | .wr _ _ _ cti => cti != Machine.ctiIncr
  | .rd _ cti => cti != Machine.ctiIncr
  | .dlyHold _ move _ movePrev => !(move && !movePrev)
  | .wrIncr _ _ _ => true
  | .rdIncr _ => true
  | .idle => true
  | .caSend => true
  | .caWait => true
  | .latencyWait => true
  | .latencyWait0 => true
  | .latencyWait1 => true
  | .latencyWait2 => true
  | .latencyWait3 => true
  | .readWrite => true
  | .readAck => true
  | .clkOff => true
  | .cleanup => true
  | .holdWait => true
  | .holdWait0 => true
  | .holdWait1 => true
  | .holdWait2 => true
  | .holdWait3 => true
  | .holdWait4 => true
  | .holdWait5 => true
  | .holdWait6 => true
  | .holdWait7 => true
  | .holdWait8 => true
  | .holdWait9 => true
  | .holdWait10 => true
  | .holdWait11 => true
  | .holdWait12 => true
  | .holdWait13 => true
  | .caRd _ => true
  | .caWr _ => true
  | .srloadCa _ => true
  | .srloadWd _ => true
  | .srloadWm _ => true
  | .dlyLoad _ _ _ _ => true
  | .dlyUp _ => true
  | .dlyDown _ => true

end Sys2Proof
end

