-- ==== Sys2Proof/Decode.lean ====
section
/-! DEFINITION. The decoder of the six kinds of words of spec/opcode_table.json, and after it the encoder. The table's
words share their numbers (0b0000 is `RD`, `IDLE`, `DLY.LOAD` ...), and what tells them apart is WHERE a word stands: on the
host bus, in the state register, in a delay-control record, in the command word, in a load of a shift register. `Format`
names that place. Words are lists of bytes, bit 0 of the table's number being the least significant bit of the first byte.
Where the table gives operands no bits (a request's address, data and select; a delay operation's group), the image of
log entry 4 adds bytes for them after the pattern. -/

namespace Sys2Proof

/-- Where a word stands. -/
inductive Format where
  /-- HOSTREQ: `{we, cti}` and the operands of a request (R61), nine bytes. -/
  | hostReq
  /-- STATE: the code of the state register (R76), one byte. -/
  | state
  /-- CA48: the command word (R63), six bytes. -/
  | ca48
  /-- SRLOAD.CA: the load of `sr_out` in CA-SEND (R66), eight bytes. -/
  | srloadCa
  /-- SRLOAD.WD: the load of `sr_out` in READ-WRITE (R67), eight bytes. -/
  | srloadWd
  /-- SRLOAD.WM: the load of `sr_rwds_out` in READ-WRITE (R68), one byte. -/
  | srloadWm
  /-- DLYCTL: `{loadn, move, direction, move_prev}` (R75) and the group, two bytes. -/
  | dlyCtl
deriving DecidableEq, Repr

/-- Why a word is no instruction. -/
inductive DecodeError where
  /-- The format has another length (R80: all formats have fixed length). -/
  | badLength (f : Format) (bytes : Nat)
  /-- A code of the state register that is never held (R14, R76: 27 to 31), or beyond five bits. -/
  | noSuchState (code : Nat)
  /-- A bit that the format fixes has the other value (R65 to R68), or an unused bit of an image is 1. -/
  | fixedBit (f : Format)
deriving DecidableEq, Repr

/-- The length of a word of the format, in bytes. -/
def Format.bytes : Format → Nat
  | .hostReq => 9
  | .state => 1
  | .ca48 => 6
  | .srloadCa => 8
  | .srloadWd => 8
  | .srloadWm => 1
  | .dlyCtl => 2

/-- The STATE rows (R76): the micro-operation of a state code. -/
def decodeStateCode (code : Nat) : Except DecodeError Instr :=
  match code with
  | 0 => .ok .idle
  | 1 => .ok .caSend
  | 2 => .ok .caWait
  | 3 => .ok .latencyWait
  | 4 => .ok .latencyWait0
  | 5 => .ok .latencyWait1
  | 6 => .ok .latencyWait2
  | 7 => .ok .latencyWait3
  | 8 => .ok .readWrite
  | 9 => .ok .readAck
  | 10 => .ok .clkOff
  | 11 => .ok .cleanup
  | 12 => .ok .holdWait
  | 13 => .ok .holdWait0
  | 14 => .ok .holdWait1
  | 15 => .ok .holdWait2
  | 16 => .ok .holdWait3
  | 17 => .ok .holdWait4
  | 18 => .ok .holdWait5
  | 19 => .ok .holdWait6
  | 20 => .ok .holdWait7
  | 21 => .ok .holdWait8
  | 22 => .ok .holdWait9
  | 23 => .ok .holdWait10
  | 24 => .ok .holdWait11
  | 25 => .ok .holdWait12
  | 26 => .ok .holdWait13
  | n => .error (.noSuchState n)

/-- The STATE format. -/
def decodeState : List Byte → Except DecodeError Instr
  | [b] => decodeStateCode b.toNat
  | bs => .error (.badLength .state bs.length)

/-- The kind of a request (R61), decided by `we` and by whether `cti` is `CTI_INCR`. A read ignores data and select. -/
def decodeRequest (we : Bool) (cti : BitVec 3) (adr : Addr) (datW : BitVec 32) (sel : BitVec 4) : Instr :=
  if we then
    if cti = Machine.ctiIncr then .wrIncr adr datW sel else .wr adr datW sel cti
  else
    if cti = Machine.ctiIncr then .rdIncr adr else .rd adr cti

/-- The HOSTREQ format: `{we, cti}` in bits 3:0 of the first byte, `adr` in three bytes, `dat_w` in four, `sel` in one. -/
def decodeHostReq : List Byte → Except DecodeError Instr
  | [k, a0, a1, a2, d0, d1, d2, d3, m] =>
    if k.extractLsb' 4 4 = 0#4 ∧ a2.extractLsb' 5 3 = 0#3 ∧ m.extractLsb' 4 4 = 0#4 then
      .ok (decodeRequest (k.getLsbD 3) (k.extractLsb' 0 3) (a2.extractLsb' 0 5 ++ a1 ++ a0) (d3 ++ d2 ++ d1 ++ d0)
        (m.extractLsb' 0 4))
    else .error (.fixedBit .hostReq)
  | bs => .error (.badLength .hostReq bs.length)

/-- The CA48 format (R63 to R65): bits 46, 44:35, 15:3 and 0 are 0, bit 45 is 1, bit 47 is the direction. -/
def decodeCaWord (ca : BitVec 48) : Except DecodeError Instr :=
  if ca.getLsbD 46 = false ∧ ca.getLsbD 45 = true ∧ ca.extractLsb' 35 10 = 0#10 ∧ ca.extractLsb' 3 13 = 0#13
      ∧ ca.getLsbD 0 = false then
    let adr : Addr := ca.extractLsb' 16 19 ++ ca.extractLsb' 1 2
    .ok (if ca.getLsbD 47 then .caRd adr else .caWr adr)
  else .error (.fixedBit .ca48)

/-- The CA48 format as bytes. -/
def decodeCa48 : List Byte → Except DecodeError Instr
  | [b0, b1, b2, b3, b4, b5] => decodeCaWord (b5 ++ b4 ++ b3 ++ b2 ++ b1 ++ b0)
  | bs => .error (.badLength .ca48 bs.length)

/-- The SRLOAD.CA format (R66): bits 15:0 are 0, bits 63:16 the command word. -/
def decodeSrloadCa : List Byte → Except DecodeError Instr
  | [b0, b1, c0, c1, c2, c3, c4, c5] =>
    if b0 = 0#8 ∧ b1 = 0#8 then .ok (.srloadCa (c5 ++ c4 ++ c3 ++ c2 ++ c1 ++ c0)) else .error (.fixedBit .srloadCa)
  | bs => .error (.badLength .srloadCa bs.length)

/-- The SRLOAD.WD format (R67): bits 31:0 are 0, bits 63:32 the write word. -/
def decodeSrloadWd : List Byte → Except DecodeError Instr
  | [b0, b1, b2, b3, d0, d1, d2, d3] =>
    if b0 = 0#8 ∧ b1 = 0#8 ∧ b2 = 0#8 ∧ b3 = 0#8 then .ok (.srloadWd (d3 ++ d2 ++ d1 ++ d0))
    else .error (.fixedBit .srloadWd)
  | bs => .error (.badLength .srloadWd bs.length)

/-- The SRLOAD.WM format (R68): bits 3:0 are 0, bits 7:4 the mask. -/
def decodeSrloadWm : List Byte → Except DecodeError Instr
  | [b] => if b.extractLsb' 0 4 = 0#4 then .ok (.srloadWm (b.extractLsb' 4 4)) else .error (.fixedBit .srloadWm)
  | bs => .error (.badLength .srloadWm bs.length)

/-- The operation of a delay-control record (R75): load while `loadn` = 0; a step at a rising edge of `move`. -/
def decodeDlyOp (g : DlyGroup) (loadn move direction movePrev : Bool) : Instr :=
  if loadn then
    if move && !movePrev then (if direction then .dlyDown g else .dlyUp g) else .dlyHold g move direction movePrev
  else .dlyLoad g move direction movePrev

/-- The DLYCTL format: `{loadn, move, direction, move_prev}` in bits 3:0 of the first byte; the second byte is the group,
0 for `io` and 1 for `clk`. -/
def decodeDlyCtl : List Byte → Except DecodeError Instr
  | [b, g] =>
    if b.extractLsb' 4 4 = 0#4 ∧ g.extractLsb' 1 7 = 0#7 then
      .ok (decodeDlyOp (if g.getLsbD 0 then .clk else .io) (b.getLsbD 3) (b.getLsbD 2) (b.getLsbD 1) (b.getLsbD 0))
    else .error (.fixedBit .dlyCtl)
  | bs => .error (.badLength .dlyCtl bs.length)

/-- The instruction that stands at a place as these bytes. Total; a word that is no instruction is rejected by name. -/
def decode (f : Format) (bs : List Byte) : Except DecodeError Instr :=
  match f with
  | .hostReq => decodeHostReq bs
  | .state => decodeState bs
  | .ca48 => decodeCa48 bs
  | .srloadCa => decodeSrloadCa bs
  | .srloadWd => decodeSrloadWd bs
  | .srloadWm => decodeSrloadWm bs
  | .dlyCtl => decodeDlyCtl bs

/-- A number of the opcode table as bytes, bit 0 the least significant bit of the first byte. -/
def bytesOfTableWord : Nat → Nat → List Byte
  | 0, _ => []
  | n + 1, w => BitVec.ofNat 8 w :: bytesOfTableWord n (w / 256)

/-- The instruction of a table word whose row is known only by its width (log entry 5). A width of one byte is read as
the state register, and where no state has the code, as SRLOAD.WM; eight bytes are read as SRLOAD.WD where the low half is
0 and as SRLOAD.CA otherwise; a width of four bits is read as a request, of five as a state. -/
def decodeTableWord (nbits w : Nat) : Option Instr :=
  match nbits with
  | 4 => (decode .hostReq (bytesOfTableWord 9 w)).toOption
  | 5 => (decode .state (bytesOfTableWord 1 w)).toOption
  | 8 => (decode .state (bytesOfTableWord 1 w)).toOption <|> (decode .srloadWm (bytesOfTableWord 1 w)).toOption
  | 16 => (decode .dlyCtl (bytesOfTableWord 2 w)).toOption
  | 48 => (decode .ca48 (bytesOfTableWord 6 w)).toOption
  | 64 => (decode .srloadWd (bytesOfTableWord 8 w)).toOption <|> (decode .srloadCa (bytesOfTableWord 8 w)).toOption
  | 72 => (decode .hostReq (bytesOfTableWord 9 w)).toOption
  | _ => none

/-- Where the word of an instruction stands. -/
def Instr.format : Instr → Format
  | .wrIncr _ _ _ => .hostReq
  | .rdIncr _ => .hostReq
  | .wr _ _ _ _ => .hostReq
  | .rd _ _ => .hostReq
  | .idle => .state
  | .caSend => .state
  | .caWait => .state
  | .latencyWait => .state
  | .latencyWait0 => .state
  | .latencyWait1 => .state
  | .latencyWait2 => .state
  | .latencyWait3 => .state
  | .readWrite => .state
  | .readAck => .state
  | .clkOff => .state
  | .cleanup => .state
  | .holdWait => .state
  | .holdWait0 => .state
  | .holdWait1 => .state
  | .holdWait2 => .state
  | .holdWait3 => .state
  | .holdWait4 => .state
  | .holdWait5 => .state
  | .holdWait6 => .state
  | .holdWait7 => .state
  | .holdWait8 => .state
  | .holdWait9 => .state
  | .holdWait10 => .state
  | .holdWait11 => .state
  | .holdWait12 => .state
  | .holdWait13 => .state
  | .caRd _ => .ca48
  | .caWr _ => .ca48
  | .srloadCa _ => .srloadCa
  | .srloadWd _ => .srloadWd
  | .srloadWm _ => .srloadWm
  | .dlyLoad _ _ _ _ => .dlyCtl
  | .dlyUp _ => .dlyCtl
  | .dlyDown _ => .dlyCtl
  | .dlyHold _ _ _ _ => .dlyCtl

/-- The image of a request (R61). -/
def encodeHostReq (we : Bool) (cti : BitVec 3) (adr : Addr) (datW : BitVec 32) (sel : BitVec 4) : List Byte :=
  [0#4 ++ BitVec.ofBool we ++ cti,
   adr.extractLsb' 0 8, adr.extractLsb' 8 8, 0#3 ++ adr.extractLsb' 16 5,
   datW.extractLsb' 0 8, datW.extractLsb' 8 8, datW.extractLsb' 16 8, datW.extractLsb' 24 8,
   0#4 ++ sel]

/-- The command word (R65): `{~we, 1'b0, 1'b1, 10'b0, adr[20:2], 13'b0, adr[1:0], 1'b0}`. -/
def caWord (we : Bool) (adr : Addr) : BitVec 48 :=
  BitVec.ofBool (!we) ++ 0#1 ++ 1#1 ++ 0#10 ++ adr.extractLsb' 2 19 ++ 0#13 ++ adr.extractLsb' 0 2 ++ 0#1

/-- The six bytes of a 48-bit word, least significant byte first. -/
def bytes48 (w : BitVec 48) : List Byte :=
  [w.extractLsb' 0 8, w.extractLsb' 8 8, w.extractLsb' 16 8, w.extractLsb' 24 8, w.extractLsb' 32 8, w.extractLsb' 40 8]

/-- The four bytes of a 32-bit word, least significant byte first. -/
def bytes32 (w : BitVec 32) : List Byte :=
  [w.extractLsb' 0 8, w.extractLsb' 8 8, w.extractLsb' 16 8, w.extractLsb' 24 8]

/-- The image of a delay-control operation (R75). -/
def encodeDlyCtl (g : DlyGroup) (loadn move direction movePrev : Bool) : List Byte :=
  [0#4 ++ BitVec.ofBool loadn ++ BitVec.ofBool move ++ BitVec.ofBool direction ++ BitVec.ofBool movePrev,
   match g with
   | .io => 0#8
   | .clk => 1#8]

/-- The bytes of an instruction, written from the same tables. -/
def encode : Instr → List Byte
  | .wrIncr adr datW sel => encodeHostReq true Machine.ctiIncr adr datW sel
  | .rdIncr adr => encodeHostReq false Machine.ctiIncr adr 0#32 0#4
  | .wr adr datW sel cti => encodeHostReq true cti adr datW sel
  | .rd adr cti => encodeHostReq false cti adr 0#32 0#4
  | .idle => [0b00000#8]
  | .caSend => [0b00001#8]
  | .caWait => [0b00010#8]
  | .latencyWait => [0b00011#8]
  | .latencyWait0 => [0b00100#8]
  | .latencyWait1 => [0b00101#8]
  | .latencyWait2 => [0b00110#8]
  | .latencyWait3 => [0b00111#8]
  | .readWrite => [0b01000#8]
  | .readAck => [0b01001#8]
  | .clkOff => [0b01010#8]
  | .cleanup => [0b01011#8]
  | .holdWait => [0b01100#8]
  | .holdWait0 => [0b01101#8]
  | .holdWait1 => [0b01110#8]
  | .holdWait2 => [0b01111#8]
  | .holdWait3 => [0b10000#8]
  | .holdWait4 => [0b10001#8]
  | .holdWait5 => [0b10010#8]
  | .holdWait6 => [0b10011#8]
  | .holdWait7 => [0b10100#8]
  | .holdWait8 => [0b10101#8]
  | .holdWait9 => [0b10110#8]
  | .holdWait10 => [0b10111#8]
  | .holdWait11 => [0b11000#8]
  | .holdWait12 => [0b11001#8]
  | .holdWait13 => [0b11010#8]
  | .caRd adr => bytes48 (caWord false adr)
  | .caWr adr => bytes48 (caWord true adr)
  | .srloadCa ca => [0#8, 0#8] ++ bytes48 ca
  | .srloadWd datW => [0#8, 0#8, 0#8, 0#8] ++ bytes32 datW
  | .srloadWm m => [m ++ 0#4]
  | .dlyLoad g move direction movePrev => encodeDlyCtl g false move direction movePrev
  | .dlyUp g => encodeDlyCtl g true true false false
  | .dlyDown g => encodeDlyCtl g true true true false
  | .dlyHold g move direction movePrev => encodeDlyCtl g true move direction movePrev

end Sys2Proof
end

