-- ==== Sys2Proof/Machine/State.lean ====
section
/-! DEFINITION. The state of the machine as plain data: the ten registers of the sequencer (10_state.md R13), the state of
the serialization layer (R28 to R30), and the inputs that the next cycles will see. HRSEQ holds no memory (00_scope.md R10),
so there is none here. -/

namespace Sys2Proof.Machine

open Host

/-- One bit-time of the three control signals on their way to the lane drivers (43_phy.md R176). -/
structure CtlSample where
  csn : Bool
  dqOe : Bool
  rwdsOe : Bool
deriving DecidableEq, Repr, Inhabited

/-- The positions of the nine delay lines of the data/strobe group (43_phy.md R181). -/
structure IoLines where
  dq0 : Nat
  dq1 : Nat
  dq2 : Nat
  dq3 : Nat
  dq4 : Nat
  dq5 : Nat
  dq6 : Nat
  dq7 : Nat
  rwds : Nat
deriving DecidableEq, Repr, Inhabited

/-- The positions of the two delay lines of the clock group (43_phy.md R181). -/
structure ClkLines where
  ck : Nat
  ckn : Nat
deriving DecidableEq, Repr, Inhabited

/-- The whole state. -/
structure State where
  /-- The state register (R14). -/
  st : SeqState
  /-- Device selected (R15). -/
  cs : Bool
  /-- Device clock may toggle (R16). -/
  clkEn : Bool
  /-- HRSEQ drives the data lanes (R17). -/
  dqOe : Bool
  /-- HRSEQ drives the strobe lane (R18). -/
  rwdsOe : Bool
  /-- The output shift register (R19). -/
  srOut : BitVec 64
  /-- The input shift register (R20). -/
  srIn : BitVec 64
  /-- The strobe-lane output register (R21). -/
  srRwdsOut : BitVec 8
  /-- The strobe-lane input register (R22). -/
  srRwdsIn : BitVec 8
  /-- The timeout counter (R23). -/
  tc : BitVec 6
  /-- The synchronizer of `csn`: bit 0 is stage 1, bit 2 is stage 3 (R28, R176). -/
  csnSync : BitVec 3
  /-- The synchronizer of `dq_oe`. -/
  dqOeSync : BitVec 3
  /-- The synchronizer of `rwds_oe`. -/
  rwdsOeSync : BitVec 3
  /-- Controls accepted and not yet at the pins, oldest first, `L_CTL` bit-times (R176). -/
  ctlPipe : List CtlSample
  /-- The transmit gearbox: samples accepted and not yet at the pins, oldest first, `L_TX` bit-times (R29). -/
  txPipe : List LaneSample
  /-- The clock pattern accepted and not yet at the pins, oldest first, `L_CK` bit-times (R29). -/
  ckPipe : List Bool
  /-- The receive gearbox: samples taken and not yet presented, oldest first, `L_RX` bit-times (R29). -/
  rxPipe : List LaneSample
  /-- Positions of the data/strobe group (R30). -/
  ioLines : IoLines
  /-- Positions of the clock group (R30). -/
  clkLines : ClkLines
  /-- `dly_io.move` one cycle earlier (30_encoding.md R75). -/
  ioMove : Bool
  /-- `dly_clk.move` one cycle earlier. -/
  clkMove : Bool
  /-- The inputs of this cycle. -/
  inp : Inputs
  /-- The inputs of the coming cycles, oldest first; beyond them the inputs are free values. -/
  stim : List Inputs
  /-- The number of this cycle (00_scope.md R9); it indexes the free values. -/
  cycle : Nat
deriving DecidableEq, Repr

/-- Why the machine stops with a fault: never. HRSEQ has no fault of any kind (30_encoding.md R77, 43_phy.md R186,
60_exceptions.md R205, R212), so this type has no constructor. -/
inductive Fault where
deriving DecidableEq, Repr

/-- Why a step is refused. -/
inductive Refusal where
  /-- Raised by `exec` for an instruction without a meaning. No arm raises it. Safe: the machine stops. -/
  | notModelled (mnemonic : String)
  /-- Raised by `step` for a word that does not decode. No step raises it: the state register and the delay-control
  records hold no such word (R14, R77). Safe: the machine stops. -/
  | undecoded (e : DecodeError)
deriving DecidableEq, Repr

/-- The quiet inputs of 95_test_vectors.md section 0: the host inputs and the lane samples 0, the delay controls at
`DLY.HOLD`. -/
def quietInputs : Inputs where
  rst := false
  cyc := false
  stb := false
  we := false
  adr := 0#21
  datW := 0#32
  sel := 0#4
  cti := 0b000#3
  rx := Quad.same ⟨0#8, false⟩
  dlyIo := ⟨true, false, false⟩
  dlyClk := ⟨true, false, false⟩

/-- The machine right after reset (R231). DESIGN CHOICE: delay-line positions and the previous `move` values 0 (log entry
13), the first cycle's inputs quiet (log entry 7), the cycle counter 0 (log entry 14). -/
def State.reset : State where
  st := .idle
  cs := false
  clkEn := false
  dqOe := false
  rwdsOe := false
  srOut := 0#64
  srIn := 0#64
  srRwdsOut := 0#8
  srRwdsIn := 0#8
  tc := 0#6
  csnSync := 0b111#3
  dqOeSync := 0b000#3
  rwdsOeSync := 0b000#3
  ctlPipe := List.replicate Config.lCtl ⟨true, false, false⟩
  txPipe := List.replicate Config.lTx ⟨0#8, false⟩
  ckPipe := List.replicate Config.lCk false
  rxPipe := List.replicate Config.lRx ⟨0#8, false⟩
  ioLines := ⟨0, 0, 0, 0, 0, 0, 0, 0, 0⟩
  clkLines := ⟨0, 0⟩
  ioMove := false
  clkMove := false
  inp := quietInputs
  stim := []
  cycle := 0

end Sys2Proof.Machine
end

