-- ==== Sys2Proof/Machine/Operands.lean ====
section
/-! DEFINITION. The words of a cycle: everything of 40_datapath.md that is a combinational function of the registers and
the inputs, the lane formats of 30_encoding.md, and the address arithmetic of 20_memory.md. -/

namespace Sys2Proof.Machine

/-- Half-word address of a host word: `{adr, 1'b0}` (20_memory.md R41). -/
def halfWord (adr : Addr) : BitVec 22 := adr ++ 0#1

/-- The command word of this cycle (40_datapath.md R90). -/
def commandWord (s : State) : BitVec 48 := caWord s.inp.we s.inp.adr

/-- `dq_o` (R96). -/
def dqO (s : State) : BitVec 32 := s.srOut.extractLsb' 32 32

/-- `rwds_o` (R97). -/
def rwdsO (s : State) : BitVec 4 := s.srRwdsOut.extractLsb' 4 4

/-- `csn` (R98). -/
def csn (s : State) : Bool := !s.cs

/-- `clk_enable` (R98). -/
def clkEnable (s : State) : Bool := s.clkEn

/-- A data word and a strobe word as the four bit-times of a cycle: formats LANE.TX and LANE.RWDS (30_encoding.md R70,
R72). -/
def laneSamples (w : BitVec 32) (v : BitVec 4) : Quad LaneSample where
  p0 := ⟨w.extractLsb' 24 8, v.getLsbD 3⟩
  p1 := ⟨w.extractLsb' 16 8, v.getLsbD 2⟩
  p2 := ⟨w.extractLsb' 8 8, v.getLsbD 1⟩
  p3 := ⟨w.extractLsb' 0 8, v.getLsbD 0⟩

/-- The data word of four samples: format LANE.RX (R71). -/
def packDq (q : Quad LaneSample) : BitVec 32 := q.p0.dq ++ q.p1.dq ++ q.p2.dq ++ q.p3.dq

/-- The strobe word of four samples (R72). -/
def packRwds (q : Quad LaneSample) : BitVec 4 :=
  BitVec.ofBool q.p0.rwds ++ BitVec.ofBool q.p1.rwds ++ BitVec.ofBool q.p2.rwds ++ BitVec.ofBool q.p3.rwds

/-- One bit-time through a pure delay: the oldest sample leaves, the new one enters. A delay of 0 passes it on. -/
def passOne {α : Type} (q : List α) (x : α) : α × List α :=
  match q with
  | [] => (x, [])
  | a :: r => (a, r ++ [x])

/-- The four bit-times of a cycle through a pure delay (10_state.md R29: the gearboxes as FIFOs of bit-time samples). -/
def passFour {α : Type} (q : List α) (x : Quad α) : Quad α × List α :=
  let a := passOne q x.p0
  let b := passOne a.2 x.p1
  let c := passOne b.2 x.p2
  let d := passOne c.2 x.p3
  (⟨a.1, b.1, c.1, d.1⟩, d.2)

/-- What the receive gearbox presents in this cycle (43_phy.md R174, R175). -/
def rxWord (s : State) : Quad LaneSample := (passFour s.rxPipe s.inp.rx).1

/-- `dq_i` (R174). -/
def dqI (s : State) : BitVec 32 := packDq (rxWord s)

/-- `rwds_i` (R175). -/
def rwdsI (s : State) : BitVec 4 := packRwds (rxWord s)

/-- `dat_r`: the read-data window `{sr_in, dq_i}[RD_OFF+31 : RD_OFF]` (40_datapath.md R99). It is not gated. -/
def datR (s : State) : BitVec 32 := (s.srIn ++ dqI s : BitVec 96).extractLsb' rdOff 32

/-- Half-word address of beat `j` of a burst that began at `adr` (20_memory.md R53), as a number; what happens beyond the
device's top is the device's. -/
def beatHalfWord (adr : Addr) (j : Nat) : Nat := (halfWord adr).toNat + 2 * j

/-- What a write beat at half-word address `ha` asks of the device: the bytes to write, in order, each with its device
byte offset (20_memory.md R51). That the device does it is no rule of HRSEQ. -/
def writeAsks (ha : Nat) (w : BitVec 32) (sel : BitVec 4) : List Host.Cell :=
  (if sel.getLsbD 3 then [(2 * ha, w.extractLsb' 24 8)] else []) ++
  (if sel.getLsbD 2 then [(2 * ha + 1, w.extractLsb' 16 8)] else []) ++
  (if sel.getLsbD 1 then [(2 * ha + 2, w.extractLsb' 8 8)] else []) ++
  (if sel.getLsbD 0 then [(2 * ha + 3, w.extractLsb' 0 8)] else [])

/-- The delay-control record of a group in this cycle (40_datapath.md R102: passed through unchanged). -/
def dlyRecord (g : DlyGroup) (s : State) : DlyRecord :=
  match g with
  | .io => s.inp.dlyIo
  | .clk => s.inp.dlyClk

/-- The value `move` of a group had one cycle earlier (30_encoding.md R75). -/
def dlyMovePrev (g : DlyGroup) (s : State) : Bool :=
  match g with
  | .io => s.ioMove
  | .clk => s.clkMove

end Sys2Proof.Machine
end

