-- ==== Sys2Proof/Machine/Flags.lean ====
section
/-! DEFINITION. The single-bit conditions of a cycle: trigger, burst continuation, valid strobe, the two abort causes,
acknowledge, and the gate of the device clock. -/

namespace Sys2Proof.Machine

/-- A trigger: `cyc and stb` (41_sequencer.md R111; only IDLE looks). -/
def trigger (s : State) : Bool := s.inp.cyc && s.inp.stb

/-- `cti = CTI_INCR`, the one test on the burst-type code (30_encoding.md R62). -/
def incrementing (s : State) : Bool := s.inp.cti == ctiIncr

/-- `vstb`, the valid-strobe bit of this cycle (40_datapath.md R101). -/
def vstb (s : State) : Bool := (rwdsI s).getLsbD validBit

/-- The two abort causes (60_exceptions.md R200). No register records them (R204). -/
inductive AbortCause where
  /-- `ABT_TIMEOUT` (R201). -/
  | timeout
  /-- `ABT_CANCEL` (R202). -/
  | cancel
deriving DecidableEq, Repr

/-- `tc > T_TIMEOUT`, unsigned, on the value before this cycle's update (40_datapath.md R104). -/
def timedOut (s : State) : Bool := tTimeout.ult s.tc

/-- The abort of a READ-ACK cycle, if there is one (R201, R202). With both causes there is one abort (R207a). -/
def abortCause (s : State) : Option AbortCause :=
  if s.inp.cyc = false then some .cancel else if timedOut s then some .timeout else none

/-- `ack` (40_datapath.md R100, 70_reset_and_hazards.md R230: 0 while `rst` is 1). -/
def ack (s : State) : Bool :=
  !s.inp.rst &&
    ((s.st == .readWrite && s.inp.we) ||
     (s.st == .readAck && vstb s && (ackOnAbortCycle || (abortCause s).isNone)))

/-- The gate of the device clock: `clk_enable and not csn` (43_phy.md R180). -/
def clockGate (s : State) : Bool := clkEnable s && !csn s

end Sys2Proof.Machine
end

