-- ==== Sys2Proof/Machine/Ops.lean ====
section
/-! DEFINITION. The named operations on the state that the meanings share: the defaults of every cycle, the loads of the
output shift registers, abort entry (this machine's exception entry) and the ladder step (its return is made of ladder
steps), the host's request, the delay lines, and reset. -/

namespace Sys2Proof.Machine

open Host

/-- The registered defaults of every sequencer cycle: both output registers shift with zero fill (40_datapath.md R91,
R93), both input registers capture (R94, R95). -/
def shiftAll (s : State) : State :=
  { s with
    srOut := s.srOut.extractLsb' 0 32 ++ 0#32
    srRwdsOut := s.srRwdsOut.extractLsb' 0 4 ++ 0#4
    srIn := s.srIn.extractLsb' 0 32 ++ dqI s
    srRwdsIn := s.srRwdsIn.extractLsb' 0 4 ++ rwdsI s }

/-- Load of `sr_out` with a command word: `{ca, 16'b0}` (30_encoding.md R66). -/
def loadCommand (ca : BitVec 48) (s : State) : State := { s with srOut := ca ++ 0#16 }

/-- Load of `sr_out` with a write word: `{dat_w, 32'b0}` (R67). -/
def loadData (w : BitVec 32) (s : State) : State := { s with srOut := w ++ 0#32 }

/-- Load of `sr_rwds_out` with a mask: `{~sel, 4'b0}`, the mask being `~sel` (R68). -/
def loadMask (m : BitVec 4) (s : State) : State := { s with srRwdsOut := m ++ 0#4 }

/-- A cycle of a wait ladder: the defaults and a fixed successor (41_sequencer.md R115 to R117, R124 to R137). -/
def ladderCycle (next : SeqState) (s : State) : State := { shiftAll s with st := next }

/-- Abort entry, `raise Abort(cause)`: `st <- CLK-OFF` and nothing else; no cause is recorded (60_exceptions.md R203). The
return is the tail from CLK-OFF to IDLE (R209). -/
def raiseAbort (_cause : AbortCause) (s : State) : State := { s with st := .clkOff }

/-- The bus with a request on it: `cyc = stb = 1` and the request's fields (30_encoding.md R61). -/
def presentWrite (adr : Addr) (datW : BitVec 32) (sel : BitVec 4) (cti : BitVec 3) (s : State) : State :=
  { s with inp := { s.inp with cyc := true, stb := true, we := true, adr := adr, datW := datW, sel := sel, cti := cti } }

/-- The bus with a read request on it; `dat_w` and `sel` are ignored on reads and stay as they are (R61, D29). -/
def presentRead (adr : Addr) (cti : BitVec 3) (s : State) : State :=
  { s with inp := { s.inp with cyc := true, stb := true, we := false, adr := adr, cti := cti } }

/-- A function applied to every line of the data/strobe group. -/
def IoLines.all (f : Nat → Nat) (l : IoLines) : IoLines :=
  ⟨f l.dq0, f l.dq1, f l.dq2, f l.dq3, f l.dq4, f l.dq5, f l.dq6, f l.dq7, f l.rwds⟩

/-- A function applied to both lines of the clock group. -/
def ClkLines.all (f : Nat → Nat) (l : ClkLines) : ClkLines := ⟨f l.ck, f l.ckn⟩

/-- Every delay line of a group moves by `f` (43_phy.md R181: all elements of a group receive the same record), and the
record's `move` is kept for the next cycle's edge detection (30_encoding.md R75). -/
def moveLines (g : DlyGroup) (f : Nat → Nat) (move : Bool) (s : State) : State :=
  match g with
  | .io => { s with ioLines := s.ioLines.all f, ioMove := move }
  | .clk => { s with clkLines := s.clkLines.all f, clkMove := move }

/-- The load position `DLY_LOAD` of a group, in `0 .. DLY_TAPS-1` (42_transactions.md R155, U9). -/
def loadPosition (g : DlyGroup) : Nat := Config.dlyLoad g % Config.dlyTaps

/-- The position after a step beyond an end in cycle `n`: any value in `0 .. DLY_TAPS-1` (U9). -/
def beyondEnd (g : DlyGroup) (n : Nat) : Nat := Config.dlyBeyond g n % Config.dlyTaps

/-- One step up (R156). -/
def stepUp (g : DlyGroup) (n p : Nat) : Nat := if p + 1 < Config.dlyTaps then p + 1 else beyondEnd g n

/-- One step down (R157). -/
def stepDown (g : DlyGroup) (n p : Nat) : Nat := if 0 < p then p - 1 else beyondEnd g n

/-- Reset of the sequencer's registers, the synchronizers and the gearboxes (70_reset_and_hazards.md R230, R231). The
delay lines are changed by their records only (10_state.md R30). -/
def resetRegisters (s : State) : State :=
  { s with
    st := .idle
    cs := false
    clkEn := false
    dqOe := false
    rwdsOe := false
    srOut := 0#64
    srIn := 0#64
    srRwdsOut := 0#8
    srRwdsIn := 0#8
    tc := 0#6
    csnSync := 0b111#3
    dqOeSync := 0b000#3
    rwdsOeSync := 0b000#3
    ctlPipe := s.ctlPipe.map fun _ => ⟨true, false, false⟩
    txPipe := s.txPipe.map fun _ => ⟨0#8, false⟩
    ckPipe := s.ckPipe.map fun _ => false
    rxPipe := s.rxPipe.map fun _ => ⟨0#8, false⟩ }

/-- One meaning after another, in one cycle. -/
def andThen (o : Outcome State Fault Refusal) (f : State → Outcome State Fault Refusal) : Outcome State Fault Refusal :=
  match o with
  | .next s => f s
  | .fault r => .fault r
  | .refused r => .refused r

end Sys2Proof.Machine
end

