-- ==== Sys2Proof/Machine/Delay.lean ====
section
/-! DEFINITION. The delay-control operations (42_transactions.md section 5). They touch the delay lines of their group and
nothing else. `movePrev` decides which operation a record is (30_encoding.md R75) and has no further effect. -/

namespace Sys2Proof.Machine

open Host

/-- `DLY.LOAD` (R155): every line of the group takes the load position. -/
def execDlyLoad (g : DlyGroup) (move _direction _movePrev : Bool) (s : State) : Outcome State Fault Refusal :=
  .next (moveLines g (fun _ => loadPosition g) move s)

/-- `DLY.UP` (R156): every line of the group one step up. -/
def execDlyUp (g : DlyGroup) (s : State) : Outcome State Fault Refusal :=
  .next (moveLines g (stepUp g s.cycle) true s)

/-- `DLY.DOWN` (R157): every line of the group one step down. -/
def execDlyDown (g : DlyGroup) (s : State) : Outcome State Fault Refusal :=
  .next (moveLines g (stepDown g s.cycle) true s)

/-- `DLY.HOLD` (R158): the positions keep their values. -/
def execDlyHold (g : DlyGroup) (move _direction _movePrev : Bool) (s : State) : Outcome State Fault Refusal :=
  .next (moveLines g id move s)

end Sys2Proof.Machine
end

