-- ==== Sys2Proof/Machine/Loads.lean ====
section
/-! DEFINITION. The words the sequencer emits and loads (30_encoding.md sections 2 and 3). Each is an action inside a cycle,
on its own: the load of one output shift register. CA-SEND performs `CA.RD` or `CA.WR` (R112); READ-WRITE with `we = 1`
performs `SRLOAD.WD` and `SRLOAD.WM` (R119). -/

namespace Sys2Proof.Machine

open Host

/-- `CA.RD` (R65, R90, R92): the command word of a read of `adr` goes into the output register. -/
def execCaRd (adr : Addr) (s : State) : Outcome State Fault Refusal := .next (loadCommand (caWord false adr) s)

/-- `CA.WR` (R65, R90, R92): the command word of a write to `adr` goes into the output register. -/
def execCaWr (adr : Addr) (s : State) : Outcome State Fault Refusal := .next (loadCommand (caWord true adr) s)

/-- `SRLOAD.CA` (R66). -/
def execSrloadCa (ca : BitVec 48) (s : State) : Outcome State Fault Refusal := .next (loadCommand ca s)

/-- `SRLOAD.WD` (R67). -/
def execSrloadWd (datW : BitVec 32) (s : State) : Outcome State Fault Refusal := .next (loadData datW s)

/-- `SRLOAD.WM` (R68). -/
def execSrloadWm (m : BitVec 4) (s : State) : Outcome State Fault Refusal := .next (loadMask m s)

end Sys2Proof.Machine
end

