-- ==== Sys2Proof/Machine/Command.lean ====
section
/-! DEFINITION. The command phase: IDLE, CA-SEND, CA-WAIT (41_sequencer.md section 2). -/

namespace Sys2Proof.Machine

open Host

/-- IDLE (R111): on a trigger, select the device. -/
def idleCycle (s : State) : State :=
  { shiftAll s with
    cs := trigger s || s.cs
    st := if trigger s then .caSend else .idle }

/-- CA-SEND (R112): clock on, lanes driven, the command word loaded. -/
def caSendCycle (s : State) : State :=
  { loadCommand (commandWord s) (shiftAll s) with
    clkEn := true
    dqOe := true
    st := .caWait }

/-- CA-WAIT (R113): the timeout counter is cleared. -/
def caWaitCycle (s : State) : State :=
  { shiftAll s with
    tc := 0#6
    st := .latencyWait }

/-- `IDLE` (R111). -/
def execIdle (s : State) : Outcome State Fault Refusal := .next (idleCycle s)

/-- `CA-SEND` (R112). -/
def execCaSend (s : State) : Outcome State Fault Refusal := .next (caSendCycle s)

/-- `CA-WAIT` (R113). -/
def execCaWait (s : State) : Outcome State Fault Refusal := .next (caWaitCycle s)

end Sys2Proof.Machine
end

