-- ==== Sys2Proof/Machine/Latency.lean ====
section
/-! DEFINITION. The latency ladder (41_sequencer.md section 3). -/

namespace Sys2Proof.Machine

open Host

/-- LATENCY-WAIT (R114): the data lanes are released. -/
def latencyWaitCycle (s : State) : State :=
  { shiftAll s with
    dqOe := false
    st := .latencyWait0 }

/-- LATENCY-WAIT3 (R118): both drivers follow `we`. -/
def latencyWait3Cycle (s : State) : State :=
  { shiftAll s with
    dqOe := s.inp.we
    rwdsOe := s.inp.we
    st := .readWrite }

/-- `LATENCY-WAIT` (R114). -/
def execLatencyWait (s : State) : Outcome State Fault Refusal := .next (latencyWaitCycle s)

/-- `LATENCY-WAIT0` (R115). -/
def execLatencyWait0 (s : State) : Outcome State Fault Refusal := .next (ladderCycle .latencyWait1 s)

/-- `LATENCY-WAIT1` (R116). -/
def execLatencyWait1 (s : State) : Outcome State Fault Refusal := .next (ladderCycle .latencyWait2 s)

/-- `LATENCY-WAIT2` (R117). -/
def execLatencyWait2 (s : State) : Outcome State Fault Refusal := .next (ladderCycle .latencyWait3 s)

/-- `LATENCY-WAIT3` (R118). -/
def execLatencyWait3 (s : State) : Outcome State Fault Refusal := .next (latencyWait3Cycle s)

end Sys2Proof.Machine
end

