-- ==== Sys2Proof/Machine/Tail.lean ====
section
/-! DEFINITION. The tail: CLK-OFF, CLEANUP and the hold ladder (41_sequencer.md section 5). It ends every transaction and
is the return from an abort (60_exceptions.md R209). -/

namespace Sys2Proof.Machine

open Host

/-- CLK-OFF (R121): the clock stops. -/
def clkOffCycle (s : State) : State :=
  { shiftAll s with
    clkEn := false
    st := .cleanup }

/-- CLEANUP (R122): the device is deselected and both lanes are released. DEDUCED (log entry 23): with IDLE's `cs <- 1`
(R111) that leaves `cs = 1` for 10 cycles in the shortest transaction, as 70_reset_and_hazards.md R251 and
95_test_vectors.md 2.8 and 2.10 count; 43_phy.md R178 says eleven or more. -/
def cleanupCycle (s : State) : State :=
  { shiftAll s with
    cs := false
    dqOe := false
    rwdsOe := false
    st := .holdWait }

/-- HOLD-WAIT (R123): both output registers are zeroed. -/
def holdWaitCycle (s : State) : State :=
  { shiftAll s with
    srOut := 0#64
    srRwdsOut := 0#8
    st := .holdWait0 }

/-- `CLK-OFF` (R121). -/
def execClkOff (s : State) : Outcome State Fault Refusal := .next (clkOffCycle s)

/-- `CLEANUP` (R122). -/
def execCleanup (s : State) : Outcome State Fault Refusal := .next (cleanupCycle s)

/-- `HOLD-WAIT` (R123). -/
def execHoldWait (s : State) : Outcome State Fault Refusal := .next (holdWaitCycle s)

/-- `HOLD-WAIT0` (R124). -/
def execHoldWait0 (s : State) : Outcome State Fault Refusal := .next (ladderCycle .holdWait1 s)

/-- `HOLD-WAIT1` (R125). -/
def execHoldWait1 (s : State) : Outcome State Fault Refusal := .next (ladderCycle .holdWait2 s)

/-- `HOLD-WAIT2` (R126). -/
def execHoldWait2 (s : State) : Outcome State Fault Refusal := .next (ladderCycle .holdWait3 s)

/-- `HOLD-WAIT3` (R127). -/
def execHoldWait3 (s : State) : Outcome State Fault Refusal := .next (ladderCycle .holdWait4 s)

/-- `HOLD-WAIT4` (R128). -/
def execHoldWait4 (s : State) : Outcome State Fault Refusal := .next (ladderCycle .holdWait5 s)

/-- `HOLD-WAIT5` (R129). -/
def execHoldWait5 (s : State) : Outcome State Fault Refusal := .next (ladderCycle .holdWait6 s)

/-- `HOLD-WAIT6` (R130). -/
def execHoldWait6 (s : State) : Outcome State Fault Refusal := .next (ladderCycle .holdWait7 s)

/-- `HOLD-WAIT7` (R131). -/
def execHoldWait7 (s : State) : Outcome State Fault Refusal := .next (ladderCycle .holdWait8 s)

/-- `HOLD-WAIT8` (R132). -/
def execHoldWait8 (s : State) : Outcome State Fault Refusal := .next (ladderCycle .holdWait9 s)

/-- `HOLD-WAIT9` (R133). -/
def execHoldWait9 (s : State) : Outcome State Fault Refusal := .next (ladderCycle .holdWait10 s)

/-- `HOLD-WAIT10` (R134). -/
def execHoldWait10 (s : State) : Outcome State Fault Refusal := .next (ladderCycle .holdWait11 s)

/-- `HOLD-WAIT11` (R135). -/
def execHoldWait11 (s : State) : Outcome State Fault Refusal := .next (ladderCycle .holdWait12 s)

/-- `HOLD-WAIT12` (R136). -/
def execHoldWait12 (s : State) : Outcome State Fault Refusal := .next (ladderCycle .holdWait13 s)

/-- `HOLD-WAIT13` (R137). -/
def execHoldWait13 (s : State) : Outcome State Fault Refusal := .next (ladderCycle .idle s)

end Sys2Proof.Machine
end

