-- ==== Sys2Proof/Machine/Transfer.lean ====
section
/-! DEFINITION. The data phase: READ-WRITE and READ-ACK (41_sequencer.md section 4). -/

namespace Sys2Proof.Machine

open Host

/-- READ-WRITE with `we = 1` (R119): the write word and the inverted select are loaded; the burst goes on while `cti` is
incrementing. -/
def writeBeatCycle (s : State) : State :=
  { loadMask (~~~s.inp.sel) (loadData s.inp.datW (shiftAll s)) with
    st := if incrementing s then .readWrite else .clkOff }

/-- READ-WRITE (R119). `cyc` and `stb` are not read. -/
def readWriteCycle (s : State) : State :=
  if s.inp.we then writeBeatCycle s else { shiftAll s with st := .readAck }

/-- The first two blocks of READ-ACK (R120): count, and on a valid strobe clear the counter and, at the last beat, stop
the clock and go to CLEANUP. -/
def strobeCycle (s : State) : State :=
  { shiftAll s with
    tc := if vstb s then 0#6 else s.tc + 1#6
    clkEn := s.clkEn && !(vstb s && !incrementing s)
    st := if vstb s && !incrementing s then .cleanup else .readAck }

/-- READ-ACK (R120): the strobe's actions, then the abort, which overrides the successor only (R207). -/
def readAckCycle (s : State) : State :=
  match abortCause s with
  | some c => raiseAbort c (strobeCycle s)
  | none => strobeCycle s

/-- `READ-WRITE` (R119). -/
def execReadWrite (s : State) : Outcome State Fault Refusal := .next (readWriteCycle s)

/-- `READ-ACK` (R120). -/
def execReadAck (s : State) : Outcome State Fault Refusal := .next (readAckCycle s)

end Sys2Proof.Machine
end

