-- ==== Sys2Proof/Machine/Requests.lean ====
section
/-! DEFINITION. The host requests (30_encoding.md R61, 42_transactions.md R151 to R154). A request is what the host bus
carries in a cycle with `cyc and stb`; it is performed by the sequencer's cycle in whatever state it finds: IDLE takes it
as a trigger, CA-SEND builds the command word from it, READ-WRITE takes a beat of a write, READ-ACK ends or continues a read,
and every other state but LATENCY-WAIT3 ignores it (20_memory.md R54). The course of a whole transaction (R150 to R154) is
what consecutive cycles make of it. -/

namespace Sys2Proof.Machine

open Host

/-- The sequencer's cycle in the state the state register holds (41_sequencer.md R139). -/
def sequencerCycle (s : State) : State :=
  match s.st with
  | .idle => idleCycle s
  | .caSend => caSendCycle s
  | .caWait => caWaitCycle s
  | .latencyWait => latencyWaitCycle s
  | .latencyWait0 => ladderCycle .latencyWait1 s
  | .latencyWait1 => ladderCycle .latencyWait2 s
  | .latencyWait2 => ladderCycle .latencyWait3 s
  | .latencyWait3 => latencyWait3Cycle s
  | .readWrite => readWriteCycle s
  | .readAck => readAckCycle s
  | .clkOff => clkOffCycle s
  | .cleanup => cleanupCycle s
  | .holdWait => holdWaitCycle s
  | .holdWait0 => ladderCycle .holdWait1 s
  | .holdWait1 => ladderCycle .holdWait2 s
  | .holdWait2 => ladderCycle .holdWait3 s
  | .holdWait3 => ladderCycle .holdWait4 s
  | .holdWait4 => ladderCycle .holdWait5 s
  | .holdWait5 => ladderCycle .holdWait6 s
  | .holdWait6 => ladderCycle .holdWait7 s
  | .holdWait7 => ladderCycle .holdWait8 s
  | .holdWait8 => ladderCycle .holdWait9 s
  | .holdWait9 => ladderCycle .holdWait10 s
  | .holdWait10 => ladderCycle .holdWait11 s
  | .holdWait11 => ladderCycle .holdWait12 s
  | .holdWait12 => ladderCycle .holdWait13 s
  | .holdWait13 => ladderCycle .idle s

/-- `WR` (R151): a cycle with a write request on the bus whose `cti` is not `CTI_INCR`. -/
def execWr (adr : Addr) (datW : BitVec 32) (sel : BitVec 4) (cti : BitVec 3) (s : State) : Outcome State Fault Refusal :=
  .next (sequencerCycle (presentWrite adr datW sel cti s))

/-- `WR.INCR` (R153): a cycle with a write request on the bus whose `cti` is `CTI_INCR`. -/
def execWrIncr (adr : Addr) (datW : BitVec 32) (sel : BitVec 4) (s : State) : Outcome State Fault Refusal :=
  .next (sequencerCycle (presentWrite adr datW sel ctiIncr s))

/-- `RD` (R152): a cycle with a read request on the bus whose `cti` is not `CTI_INCR`. -/
def execRd (adr : Addr) (cti : BitVec 3) (s : State) : Outcome State Fault Refusal :=
  .next (sequencerCycle (presentRead adr cti s))

/-- `RD.INCR` (R154): a cycle with a read request on the bus whose `cti` is `CTI_INCR`. -/
def execRdIncr (adr : Addr) (s : State) : Outcome State Fault Refusal :=
  .next (sequencerCycle (presentRead adr ctiIncr s))

end Sys2Proof.Machine
end

