-- ==== Sys2Proof/Machine/Dispatch.lean ====
section
/-! DEFINITION. The dispatch: one arm per constructor of Instr, each one call of its meaning. -/

namespace Sys2Proof.Machine

open Host

def exec (i : Instr) (s : State) : Host.Outcome State Fault Refusal :=
  match i with
  | .wrIncr adr datW sel => Sys2Proof.Machine.execWrIncr adr datW sel s
  | .rdIncr adr => Sys2Proof.Machine.execRdIncr adr s
  | .wr adr datW sel cti => Sys2Proof.Machine.execWr adr datW sel cti s
  | .rd adr cti => Sys2Proof.Machine.execRd adr cti s
  | .idle => Sys2Proof.Machine.execIdle s
  | .caSend => Sys2Proof.Machine.execCaSend s
  | .caWait => Sys2Proof.Machine.execCaWait s
  | .latencyWait => Sys2Proof.Machine.execLatencyWait s
  | .latencyWait0 => Sys2Proof.Machine.execLatencyWait0 s
  | .latencyWait1 => Sys2Proof.Machine.execLatencyWait1 s
  | .latencyWait2 => Sys2Proof.Machine.execLatencyWait2 s
  | .latencyWait3 => Sys2Proof.Machine.execLatencyWait3 s
  | .readWrite => Sys2Proof.Machine.execReadWrite s
  | .readAck => Sys2Proof.Machine.execReadAck s
  | .clkOff => Sys2Proof.Machine.execClkOff s
  | .cleanup => Sys2Proof.Machine.execCleanup s
  | .holdWait => Sys2Proof.Machine.execHoldWait s
  | .holdWait0 => Sys2Proof.Machine.execHoldWait0 s
  | .holdWait1 => Sys2Proof.Machine.execHoldWait1 s
  | .holdWait2 => Sys2Proof.Machine.execHoldWait2 s
  | .holdWait3 => Sys2Proof.Machine.execHoldWait3 s
  | .holdWait4 => Sys2Proof.Machine.execHoldWait4 s
  | .holdWait5 => Sys2Proof.Machine.execHoldWait5 s
  | .holdWait6 => Sys2Proof.Machine.execHoldWait6 s
  | .holdWait7 => Sys2Proof.Machine.execHoldWait7 s
  | .holdWait8 => Sys2Proof.Machine.execHoldWait8 s
  | .holdWait9 => Sys2Proof.Machine.execHoldWait9 s
  | .holdWait10 => Sys2Proof.Machine.execHoldWait10 s
  | .holdWait11 => Sys2Proof.Machine.execHoldWait11 s
  | .holdWait12 => Sys2Proof.Machine.execHoldWait12 s
  | .holdWait13 => Sys2Proof.Machine.execHoldWait13 s
  | .caRd adr => Sys2Proof.Machine.execCaRd adr s
  | .caWr adr => Sys2Proof.Machine.execCaWr adr s
  | .srloadCa ca => Sys2Proof.Machine.execSrloadCa ca s
  | .srloadWd datW => Sys2Proof.Machine.execSrloadWd datW s
  | .srloadWm m => Sys2Proof.Machine.execSrloadWm m s
  | .dlyLoad g move direction movePrev => Sys2Proof.Machine.execDlyLoad g move direction movePrev s
  | .dlyUp g => Sys2Proof.Machine.execDlyUp g s
  | .dlyDown g => Sys2Proof.Machine.execDlyDown g s
  | .dlyHold g move direction movePrev => Sys2Proof.Machine.execDlyHold g move direction movePrev s

end Sys2Proof.Machine
end

