-- ==== Sys2Proof/Machine/Phy.lean ====
section
/-! DEFINITION. The serialization layer (43_phy.md): what a cycle puts into the gearboxes, the synchronizers and the clock
generator, what the pins carry in the four bit-times of a cycle, and the debug bundle. -/

namespace Sys2Proof.Machine

/-- What the PHY drives in one bit-time; `none` on a lane is a lane HRSEQ does not drive (43_phy.md R177, R190). -/
structure PinState where
  ck : Bool
  ckn : Bool
  csn : Bool
  dq : Option Byte
  rwds : Option Bool
  rstn : Option Bool
deriving DecidableEq, Repr

/-- The controls offered to the lane drivers in a cycle: each value lasts the whole cycle (R176, R188). -/
def ctlSamples (s : State) : Quad CtlSample := Quad.same ⟨csn s, s.dqOe, s.rwdsOe⟩

/-- The lane samples offered in a cycle (R172, R173). -/
def txSamples (s : State) : Quad LaneSample := laneSamples (dqO s) (rwdsO s)

/-- The clock pattern of a cycle: two pulses while the gate is open, low otherwise. A `true` in phase p is the pulse that
rises in the middle of bit-time p and falls in the middle of bit-time p+1 (R179, D25). -/
def ckSamples (s : State) : Quad Bool := if clockGate s then ⟨true, false, true, false⟩ else Quad.same false

/-- `RSTn`: high whenever present (40_datapath.md R103, 43_phy.md R184). -/
def rstnPin : Option Bool := if Config.hasRstn then some true else none

/-- The pins in a bit-time, from the control, lane and clock samples that arrive in it (R177 to R179). -/
def pinState (c : CtlSample) (l : LaneSample) (k : Bool) : PinState where
  ck := k
  ckn := !k
  csn := c.csn
  dq := if c.dqOe then some l.dq else none
  rwds := if c.rwdsOe then some l.rwds else none
  rstn := rstnPin

/-- The pins in the four bit-times of this cycle. -/
def pins (s : State) : Quad PinState :=
  let c := (passFour s.ctlPipe (ctlSamples s)).1
  let l := (passFour s.txPipe (txSamples s)).1
  let k := (passFour s.ckPipe (ckSamples s)).1
  ⟨pinState c.p0 l.p0 k.p0, pinState c.p1 l.p1 k.p1, pinState c.p2 l.p2 k.p2, pinState c.p3 l.p3 k.p3⟩

/-- One edge of a synchronizer: `stage1 <- in; stage2 <- stage1; stage3 <- stage2` (R176). -/
def syncEdge (c : BitVec 3) (x : Bool) : BitVec 3 := c.extractLsb' 0 2 ++ BitVec.ofBool x

/-- The edges of one `sys` cycle: one of the base-rate clock, two of a double-rate clock (R187). -/
def syncCycle (k : IoClock) (c : BitVec 3) (x : Bool) : BitVec 3 :=
  match k with
  | .sys90 => syncEdge c x
  | .sys2x => syncEdge (syncEdge c x) x
  | .sys2x90 => syncEdge (syncEdge c x) x

/-- The output of a synchronizer, its third stage (R176). -/
def syncOut (c : BitVec 3) : Bool := c.getLsbD 2

/-- The serialization layer after a cycle: `pre` is the state during the cycle, `post` the state the sequencer and the
delay lines go to. -/
def advancePhy (pre post : State) : State :=
  { post with
    csnSync := syncCycle Config.syncClock pre.csnSync (csn pre)
    dqOeSync := syncCycle Config.syncClock pre.dqOeSync pre.dqOe
    rwdsOeSync := syncCycle Config.syncClock pre.rwdsOeSync pre.rwdsOe
    ctlPipe := (passFour pre.ctlPipe (ctlSamples pre)).2
    txPipe := (passFour pre.txPipe (txSamples pre)).2
    ckPipe := (passFour pre.ckPipe (ckSamples pre)).2
    rxPipe := (passFour pre.rxPipe pre.inp.rx).2 }

/-- The response to the host, format HOSTRSP (30_encoding.md R81). -/
structure HostResponse where
  ack : Bool
  datR : BitVec 32
deriving DecidableEq, Repr

/-- The response of this cycle. -/
def hostResponse (s : State) : HostResponse := ⟨ack s, datR s⟩

/-- The host-bus signals of a cycle: those 00_scope.md R11 lists as input from the host or output to the host. -/
structure HostBus where
  cyc : Bool
  stb : Bool
  we : Bool
  adr : Addr
  datW : BitVec 32
  sel : BitVec 4
  cti : BitVec 3
  response : HostResponse
deriving DecidableEq, Repr

/-- The host bus of this cycle. -/
def hostBus (s : State) : HostBus :=
  ⟨s.inp.cyc, s.inp.stb, s.inp.we, s.inp.adr, s.inp.datW, s.inp.sel, s.inp.cti, hostResponse s⟩

/-- The debug bundle (43_phy.md R185): outputs only, in no defined order. DESIGN CHOICE (log entry 21): R185 names the
host-bus signals as a part without listing them, and decision D32 lists none; the model carries all nine that R11 gives the
host bus, `ack` and `dat_r` among them. -/
structure DebugBundle where
  host : HostBus
  st : SeqState
  srOut : BitVec 64
  srIn : BitVec 64
  srRwdsOut : BitVec 8
  srRwdsIn : BitVec 8
  cs : Bool
  clkEn : Bool
  dqO : BitVec 32
  dqI : BitVec 32
  dqOe : Bool
  rwdsO : BitVec 4
  rwdsI : BitVec 4
  rwdsOe : Bool
deriving DecidableEq, Repr

/-- The debug bundle of this cycle. -/
def debugBundle (s : State) : DebugBundle :=
  ⟨hostBus s, s.st, s.srOut, s.srIn, s.srRwdsOut, s.srRwdsIn, s.cs, s.clkEn, dqO s, dqI s, s.dqOe, rwdsO s, rwdsI s, s.rwdsOe⟩

end Sys2Proof.Machine
end

