-- ==== Sys2Proof/Machine/Fetch.lean ====
section
/-! DEFINITION. Where the words of a cycle stand (the state register, the two delay-control records, the host bus), what
ends a cycle, and how a word is put where the next step finds it. -/

namespace Sys2Proof.Machine

/-- The code of a state (30_encoding.md R76). -/
def stateCode : SeqState → BitVec 5
  | .idle => 0#5
  | .caSend => 1#5
  | .caWait => 2#5
  | .latencyWait => 3#5
  | .latencyWait0 => 4#5
  | .latencyWait1 => 5#5
  | .latencyWait2 => 6#5
  | .latencyWait3 => 7#5
  | .readWrite => 8#5
  | .readAck => 9#5
  | .clkOff => 10#5
  | .cleanup => 11#5
  | .holdWait => 12#5
  | .holdWait0 => 13#5
  | .holdWait1 => 14#5
  | .holdWait2 => 15#5
  | .holdWait3 => 16#5
  | .holdWait4 => 17#5
  | .holdWait5 => 18#5
  | .holdWait6 => 19#5
  | .holdWait7 => 20#5
  | .holdWait8 => 21#5
  | .holdWait9 => 22#5
  | .holdWait10 => 23#5
  | .holdWait11 => 24#5
  | .holdWait12 => 25#5
  | .holdWait13 => 26#5

/-- The STATE row of a state: its micro-operation. -/
def stateInstr : SeqState → Instr
  | .idle => .idle
  | .caSend => .caSend
  | .caWait => .caWait
  | .latencyWait => .latencyWait
  | .latencyWait0 => .latencyWait0
  | .latencyWait1 => .latencyWait1
  | .latencyWait2 => .latencyWait2
  | .latencyWait3 => .latencyWait3
  | .readWrite => .readWrite
  | .readAck => .readAck
  | .clkOff => .clkOff
  | .cleanup => .cleanup
  | .holdWait => .holdWait
  | .holdWait0 => .holdWait0
  | .holdWait1 => .holdWait1
  | .holdWait2 => .holdWait2
  | .holdWait3 => .holdWait3
  | .holdWait4 => .holdWait4
  | .holdWait5 => .holdWait5
  | .holdWait6 => .holdWait6
  | .holdWait7 => .holdWait7
  | .holdWait8 => .holdWait8
  | .holdWait9 => .holdWait9
  | .holdWait10 => .holdWait10
  | .holdWait11 => .holdWait11
  | .holdWait12 => .holdWait12
  | .holdWait13 => .holdWait13

/-- The word that stands in the state register, the machine's program counter. -/
def stateWord (s : State) : List Byte := [(stateCode s.st).setWidth 8]

/-- The word that stands in a delay-control record, with the value `move` had one cycle earlier (30_encoding.md R75). -/
def dlyWord (g : DlyGroup) (s : State) : List Byte :=
  encodeDlyCtl g (dlyRecord g s).loadn (dlyRecord g s).move (dlyRecord g s).direction (dlyMovePrev g s)

/-- The word that stands on the host bus (R61). -/
def requestWord (s : State) : List Byte := encodeHostReq s.inp.we s.inp.cti s.inp.adr s.inp.datW s.inp.sel

/-- The request of this cycle: one exists only while `cyc and stb` (R61). -/
def hostRequest (s : State) : Option Instr :=
  if trigger s then (decode .hostReq (requestWord s)).toOption else none

/-- The inputs of the next cycle: the next of the stimulus, and free values beyond it (43_phy.md R190). -/
def nextInputs (s : State) : Inputs :=
  match s.stim with
  | [] => Config.freeInputs (s.cycle + 1)
  | i :: _ => i

/-- The end of a cycle: `pre` is the state during the cycle, `post` what the sequencer and the delay lines make of it. The
serialization layer advances, reset overrides (70_reset_and_hazards.md R230), and the next cycle's inputs come. -/
def finishCycle (pre post : State) : State :=
  let t := advancePhy pre post
  let u := if pre.inp.rst then resetRegisters t else t
  { u with
    inp := nextInputs pre
    stim := pre.stim.tail
    cycle := pre.cycle + 1 }

/-- `s` with an instruction put where the next step finds it. A STATE row goes into the state register; a request onto the
host bus; a delay operation into the record of its group. A command word and the loads stand where the sequencer makes
them, so the state that makes them and the host fields they are made from are put there. -/
def placeInstr (i : Instr) (s : State) : State :=
  match i with
  | .wrIncr adr datW sel => presentWrite adr datW sel ctiIncr s
  | .rdIncr adr => presentRead adr ctiIncr s
  | .wr adr datW sel cti => presentWrite adr datW sel cti s
  | .rd adr cti => presentRead adr cti s
  | .idle => { s with st := .idle }
  | .caSend => { s with st := .caSend }
  | .caWait => { s with st := .caWait }
  | .latencyWait => { s with st := .latencyWait }
  | .latencyWait0 => { s with st := .latencyWait0 }
  | .latencyWait1 => { s with st := .latencyWait1 }
  | .latencyWait2 => { s with st := .latencyWait2 }
  | .latencyWait3 => { s with st := .latencyWait3 }
  | .readWrite => { s with st := .readWrite }
  | .readAck => { s with st := .readAck }
  | .clkOff => { s with st := .clkOff }
  | .cleanup => { s with st := .cleanup }
  | .holdWait => { s with st := .holdWait }
  | .holdWait0 => { s with st := .holdWait0 }
  | .holdWait1 => { s with st := .holdWait1 }
  | .holdWait2 => { s with st := .holdWait2 }
  | .holdWait3 => { s with st := .holdWait3 }
  | .holdWait4 => { s with st := .holdWait4 }
  | .holdWait5 => { s with st := .holdWait5 }
  | .holdWait6 => { s with st := .holdWait6 }
  | .holdWait7 => { s with st := .holdWait7 }
  | .holdWait8 => { s with st := .holdWait8 }
  | .holdWait9 => { s with st := .holdWait9 }
  | .holdWait10 => { s with st := .holdWait10 }
  | .holdWait11 => { s with st := .holdWait11 }
  | .holdWait12 => { s with st := .holdWait12 }
  | .holdWait13 => { s with st := .holdWait13 }
  | .caRd adr => { s with st := .caSend, inp := { s.inp with we := false, adr := adr } }
  | .caWr adr => { s with st := .caSend, inp := { s.inp with we := true, adr := adr } }
  | .srloadCa ca =>
    { s with
      st := .caSend
      inp := { s.inp with we := !ca.getLsbD 47, adr := ca.extractLsb' 16 19 ++ ca.extractLsb' 1 2 } }
  | .srloadWd datW => { s with st := .readWrite, inp := { s.inp with we := true, datW := datW } }
  | .srloadWm m => { s with st := .readWrite, inp := { s.inp with we := true, sel := ~~~m } }
  | .dlyLoad g move direction movePrev => placeRecord g ⟨false, move, direction⟩ movePrev s
  | .dlyUp g => placeRecord g ⟨true, true, false⟩ false s
  | .dlyDown g => placeRecord g ⟨true, true, true⟩ false s
  | .dlyHold g move direction movePrev => placeRecord g ⟨true, move, direction⟩ movePrev s
where
  /-- A record of a group, and the value `move` had before it. -/
  placeRecord (g : DlyGroup) (r : DlyRecord) (movePrev : Bool) (s : State) : State :=
    match g with
    | .io => { s with inp := { s.inp with dlyIo := r }, ioMove := movePrev }
    | .clk => { s with inp := { s.inp with dlyClk := r }, clkMove := movePrev }

end Sys2Proof.Machine
end

