-- ==== Sys2Proof/Machine/Step.lean ====
section
/-! DEFINITION. One step: one `sys` cycle. The word in the state register is fetched, decoded and executed, and so are the
words of the two delay-control records; then the serialization layer advances and the next cycle's inputs come. -/

namespace Sys2Proof.Machine

open Host

/-- The instructions of a cycle, executed: the two delay operations and the micro-operation. They act on different
registers, so their order does not matter. -/
def execCycle (dio dclk i : Instr) (s : State) : Outcome State Fault Refusal :=
  andThen (andThen (andThen (exec dio s) (exec dclk)) (exec i)) (fun t => .next (finishCycle s t))

/-- One step of the machine (41_sequencer.md R139, 43_phy.md). -/
def step (s : State) : Outcome State Fault Refusal :=
  match decode .dlyCtl (dlyWord .io s), decode .dlyCtl (dlyWord .clk s), decode .state (stateWord s) with
  | .ok dio, .ok dclk, .ok i => execCycle dio dclk i s
  | .error e, _, _ => .refused (.undecoded e)
  | _, .error e, _ => .refused (.undecoded e)
  | _, _, .error e => .refused (.undecoded e)

/-- `s` with the instruction of a table word put where the next step finds it; a word that is no instruction changes
nothing. -/
def State.withFetchWord (s : State) (nbits w : Nat) : State :=
  match decodeTableWord nbits w with
  | some i => placeInstr i s
  | none => s

end Sys2Proof.Machine
end

