-- ==== Sys2Proof/Safety.lean ====
section
/-! DEFINITION. The terms that statements about runs are made in: the inputs of a coming cycle, what a cycle shows, and the
invariant of every run (41_sequencer.md R142, 40_datapath.md R104, 10_state.md R29, R30). A safe run is one in which every
state has the invariant; no step of this machine stops. -/

namespace Sys2Proof.Machine

open Host

/-- The inputs of the `k`-th cycle from now, cycle 0 being the current one. -/
def State.inputAt (s : State) (k : Nat) : Inputs :=
  match k with
  | 0 => s.inp
  | k + 1 => (s.stim[k]?).getD (Config.freeInputs (s.cycle + k + 1))

/-- No reset in the first `n` cycles from now. -/
def State.unreset (s : State) (n : Nat) : Prop := ∀ k < n, (s.inputAt k).rst = false

/-- `n` steps of the machine. -/
def runFor (n : Nat) (s : State) : Outcome State Fault Refusal := Core.run Sys2Proof.core n s

/-- The columns of the tables of 42_transactions.md R150 and 95_test_vectors.md: the state, the four controls, the two words
offered to the lanes, and the acknowledge of a cycle. -/
structure Shown where
  st : SeqState
  cs : Bool
  clkEn : Bool
  dqOe : Bool
  rwdsOe : Bool
  dqO : BitVec 32
  rwdsO : BitVec 4
  ack : Bool
deriving DecidableEq, Repr

/-- What the cycle of `s` shows. -/
def shown (s : State) : Shown := ⟨s.st, s.cs, s.clkEn, s.dqOe, s.rwdsOe, dqO s, rwdsO s, ack s⟩

/-- A value read off each of the first `n` cycles of the run from `s`. -/
def traceOf {α : Type} (f : State → α) : Nat → State → List α
  | 0, _ => []
  | n + 1, s =>
    f s :: match step s with
      | .next t => traceOf f n t
      | .fault _ => []
      | .refused _ => []

/-- The cycles since the last strobe, in each of the cycles in which `vs` tells whether there is a strobe, `g` in the first:
the timeout counter of a waiting read (R104: `tc` counts the cycles since the last cycle with `vstb = 1`). -/
def gaps : Nat → List Bool → List Nat
  | _, [] => []
  | g, v :: vs => g :: gaps (if v then 0 else g + 1) vs

/-- The cycles since the last strobe once the cycles of `vs` have passed. -/
def gapAfter : Nat → List Bool → Nat
  | g, [] => g
  | g, v :: vs => gapAfter (if v then 0 else g + 1) vs

/-- The states in which the device is selected: codes 1 to 11 (R142a). -/
def selectedIn (st : SeqState) : Bool := decide (1 ≤ (stateCode st).toNat ∧ (stateCode st).toNat ≤ 11)

/-- The states in which the clock is enabled in every run: codes 2 to 9, CA-WAIT to READ-ACK (R142b). -/
def clockedIn (st : SeqState) : Bool := decide (2 ≤ (stateCode st).toNat ∧ (stateCode st).toNat ≤ 9)

/-- A position that is one of the line's. -/
def inRange (p : Nat) : Prop := p < Config.dlyTaps

/-- Every line of the data/strobe group is in range. -/
def IoLines.inRange (l : IoLines) : Prop :=
  Machine.inRange l.dq0 ∧ Machine.inRange l.dq1 ∧ Machine.inRange l.dq2 ∧ Machine.inRange l.dq3 ∧ Machine.inRange l.dq4 ∧
    Machine.inRange l.dq5 ∧ Machine.inRange l.dq6 ∧ Machine.inRange l.dq7 ∧ Machine.inRange l.rwds

/-- Both lines of the clock group are in range. -/
def ClkLines.inRange (l : ClkLines) : Prop := Machine.inRange l.ck ∧ Machine.inRange l.ckn

/-- All lines of the data/strobe group hold the same position (R30). -/
def IoLines.agree (l : IoLines) : Prop := ∃ p, l = ⟨p, p, p, p, p, p, p, p, p⟩

/-- Both lines of the clock group hold the same position (R30). -/
def ClkLines.agree (l : ClkLines) : Prop := ∃ p, l = ⟨p, p⟩

/-- The invariant of every run from reset. -/
structure State.Inv (s : State) : Prop where
  /-- R142a: selected exactly in CA-SEND to CLEANUP. -/
  selected : s.cs = selectedIn s.st
  /-- R142b: the clock runs in CA-WAIT to READ-ACK. -/
  clockOn : clockedIn s.st = true → s.clkEn = true
  /-- R142b: and is off elsewhere, but for CLK-OFF, the state that clears it. -/
  clockOff : clockedIn s.st = false → s.st ≠ .clkOff → s.clkEn = false
  /-- R142c: the data lanes are driven while the command is sent. -/
  commandDriven : s.st = .caWait ∨ s.st = .latencyWait → s.dqOe = true
  /-- R142d: the strobe lane is not driven before the data phase. -/
  strobeReleased : (stateCode s.st).toNat < 8 → s.rwdsOe = false
  /-- R142c: the data lanes are released in the rest of the latency ladder, and before the command. -/
  dataReleased : (stateCode s.st).toNat < 8 → s.st ≠ .caWait → s.st ≠ .latencyWait → s.dqOe = false
  /-- R142c, R142d: in the data phase and until CLEANUP both drivers are on (a write) or both off. -/
  bothDriven : 8 ≤ (stateCode s.st).toNat → s.dqOe = s.rwdsOe
  /-- R142c, R142d: both are released in the hold ladder. -/
  holdReleased : 12 ≤ (stateCode s.st).toNat → s.dqOe = false
  /-- R142f: `sr_out` is 0 but while a command or a write word is in it. -/
  outZero : s.st ≠ .caWait → s.st ≠ .latencyWait → s.st ≠ .readWrite → s.st ≠ .clkOff → s.srOut = 0#64
  /-- In the last cycle a word is in `sr_out`, its lower half is 0. -/
  outLow : s.st = .latencyWait ∨ s.st = .readWrite ∨ s.st = .clkOff → s.srOut.extractLsb' 0 32 = 0#32
  /-- R142f: `sr_rwds_out` is 0 but while a mask is in it. -/
  maskZero : s.st ≠ .readWrite → s.st ≠ .clkOff → s.srRwdsOut = 0#8
  /-- The lower half of `sr_rwds_out` is 0 while a mask is in it. -/
  maskLow : s.st = .readWrite ∨ s.st = .clkOff → s.srRwdsOut.extractLsb' 0 4 = 0#4
  /-- R104: the timeout counter is 0 from CA-WAIT's clearing to the entry of READ-ACK. -/
  tcCleared : 3 ≤ (stateCode s.st).toNat → (stateCode s.st).toNat ≤ 8 → s.tc = 0#6
  /-- R104: it is at most 21 during READ-ACK. -/
  tcWaiting : s.st = .readAck → s.tc.toNat ≤ 21
  /-- R23, R104: 22 is the largest value it ever holds. -/
  tcBound : s.tc.toNat ≤ 22
  /-- R176: the control path holds `L_CTL` bit-times. -/
  ctlLength : s.ctlPipe.length = Config.lCtl
  /-- R29: the transmit gearbox holds `L_TX` bit-times. -/
  txLength : s.txPipe.length = Config.lTx
  /-- R29: the clock path holds `L_CK` bit-times. -/
  ckLength : s.ckPipe.length = Config.lCk
  /-- R29: the receive gearbox holds `L_RX` bit-times. -/
  rxLength : s.rxPipe.length = Config.lRx
  /-- R30: positions in `0 .. DLY_TAPS-1`. -/
  ioInRange : s.ioLines.inRange
  /-- R30: positions in `0 .. DLY_TAPS-1`. -/
  clkInRange : s.clkLines.inRange

end Sys2Proof.Machine
end

