-- ==== Sys2Proof/Certificates/Slice0/Obligations.lean ====
section
/-! DEFINITION. The statements for the provers. Each docstring names the rules it formalises. Where a statement mentions a
value the spec leaves open (a delay line stepped beyond its end, the load position) it holds for every value. -/

namespace Sys2Proof.Machine

/-- The registered defaults of a cycle written as shifts: the output registers move left by one word with zero fill, the
input registers take the newest word below (10_state.md R19 to R22). -/
def shiftedLeft (s : State) : State :=
  { s with
    srOut := s.srOut <<< 32
    srRwdsOut := s.srRwdsOut <<< 4
    srIn := s.srIn <<< 32 ||| (dqI s).setWidth 64
    srRwdsIn := s.srRwdsIn <<< 4 ||| (rwdsI s).setWidth 8 }

/-- A shown cycle in which nothing is selected, clocked, driven, offered or acknowledged. -/
def quietShown (st : SeqState) : Shown := ⟨st, false, false, false, false, 0#32, 0#4, false⟩

/-- The fifteen states of the hold ladder, in order. -/
def holdStates : List SeqState :=
  [.holdWait, .holdWait0, .holdWait1, .holdWait2, .holdWait3, .holdWait4, .holdWait5, .holdWait6, .holdWait7, .holdWait8, .holdWait9, .holdWait10, .holdWait11, .holdWait12, .holdWait13]

/-- The first nine cycles of a transaction as the table of R150 shows them. -/
def commonCourse (ca : BitVec 48) (we ack8 : Bool) : List Shown :=
  [quietShown .idle,
   ⟨.caSend, true, false, false, false, 0#32, 0#4, false⟩,
   ⟨.caWait, true, true, true, false, ca.extractLsb' 16 32, 0#4, false⟩,
   ⟨.latencyWait, true, true, true, false, ca.extractLsb' 0 16 ++ 0#16, 0#4, false⟩,
   ⟨.latencyWait0, true, true, false, false, 0#32, 0#4, false⟩,
   ⟨.latencyWait1, true, true, false, false, 0#32, 0#4, false⟩,
   ⟨.latencyWait2, true, true, false, false, 0#32, 0#4, false⟩,
   ⟨.latencyWait3, true, true, false, false, 0#32, 0#4, false⟩,
   ⟨.readWrite, true, true, we, we, 0#32, 0#4, ack8⟩]

/-- The inputs of a cycle with a write request on the bus. -/
def writeOnBus (i : Inputs) (a : Addr) (d : BitVec 32) (m : BitVec 4) (c : BitVec 3) : Inputs :=
  { i with cyc := true, stb := true, we := true, adr := a, datW := d, sel := m, cti := c }

/-- The inputs of a cycle with a read request on the bus. -/
def readOnBus (i : Inputs) (a : Addr) (c : BitVec 3) : Inputs :=
  { i with cyc := true, stb := true, we := false, adr := a, cti := c }

end Sys2Proof.Machine

open Sys2Proof Sys2Proof.Machine Host

/-! ### Encodings -/

/-- R61, R63 to R68, R75, R76: decoding the words of a well-formed instruction gives the instruction, every operand at
every value. The bytes that carry a request's operands and a delay operation's group are the model's image (log entry 4). -/
def Obligations.DecodeEncodeAgree : Prop :=
  ∀ i : Instr, i.wellFormed = true → decode i.format (encode i) = .ok i

/-- R63 to R68, R75, R76: outside host requests each word has one meaning: what a word decodes to is well-formed, stands at
that place, and has exactly that word. Host requests are left out, because a read ignores the bytes of data and select. The
second byte of a delay operation's word (the group, its unused bits 0) is the model's image (log entry 4). -/
def Obligations.EncodeDecodeAgree : Prop :=
  ∀ (f : Format) (bs : List Byte) (i : Instr), f ≠ .hostReq → decode f bs = .ok i →
    i.format = f ∧ i.wellFormed = true ∧ encode i = bs

/-- Words written out from R65, R68 and R76, and from R61 and R75 in the model's image, decode to what they stand for. The
nine bytes of the request (R61 gives it no packed form on the bus) and the group byte of the delay operation are the model's
choice (log entry 4). -/
def Obligations.SpecWordsDecode : Prop :=
  decode .hostReq [0b00001010#8, 0x45#8, 0x23#8, 0x01#8, 0x11#8, 0x22#8, 0x33#8, 0x44#8, 0b00001111#8]
      = .ok (.wrIncr 0x012345#21 0x44332211#32 0b1111#4) ∧
    decode .state [0b00001001#8] = .ok .readAck ∧
    decode .state [0b00011010#8] = .ok .holdWait13 ∧
    decode .state [0b00011011#8] = .error (.noSuchState 27) ∧
    decode .ca48 [0x02#8, 0x00#8, 0x00#8, 0x00#8, 0x00#8, 0x20#8] = .ok (.caWr 0x000001#21) ∧
    decode .ca48 [0x06#8, 0x00#8, 0xFF#8, 0xFF#8, 0x07#8, 0xA0#8] = .ok (.caRd 0x1FFFFF#21) ∧
    decode .srloadWm [0b01110000#8] = .ok (.srloadWm 0b0111#4) ∧
    decode .dlyCtl [0b00001100#8, 0#8] = .ok (.dlyUp .io)

/-- R65: the command word as a number, and its top three bits. -/
def Obligations.CommandWordAsNumber : Prop :=
  ∀ (we : Bool) (adr : Addr),
    (caWord we adr).toNat =
        (if we then 0 else 2 ^ 47) + 2 ^ 45 + (adr.extractLsb' 2 19).toNat * 2 ^ 16 + (adr.extractLsb' 0 2).toNat * 2 ∧
      (caWord we adr).extractLsb' 45 3 = (if we then 0b001#3 else 0b101#3)

/-- R64, R41: the address fields of the command word, and the same fields of the half-word address `{adr, 1'b0}`. -/
def Obligations.CommandWordCarriesHalfWordAddress : Prop :=
  ∀ (we : Bool) (adr : Addr),
    (caWord we adr).extractLsb' 16 19 = adr.extractLsb' 2 19 ∧
      (caWord we adr).extractLsb' 1 2 = adr.extractLsb' 0 2 ∧
      (caWord we adr).getLsbD 0 = false ∧
      (halfWord adr).toNat = 2 * adr.toNat ∧
      (caWord we adr).extractLsb' 0 3 = (halfWord adr).extractLsb' 0 3 ∧
      (caWord we adr).extractLsb' 16 19 = (halfWord adr).extractLsb' 3 19

/-- R61, R62: a request exists only while `cyc and stb`, and its kind is decided by `we` and by whether `cti` is `0b010`. -/
def Obligations.HostRequestKinds : Prop :=
  ∀ s : State,
    hostRequest s =
      if s.inp.cyc = true ∧ s.inp.stb = true then
        some (if s.inp.we = true then
            (if s.inp.cti = 0b010#3 then .wrIncr s.inp.adr s.inp.datW s.inp.sel
             else .wr s.inp.adr s.inp.datW s.inp.sel s.inp.cti)
          else (if s.inp.cti = 0b010#3 then .rdIncr s.inp.adr else .rd s.inp.adr s.inp.cti))
      else none

/-! ### The step -/

/-- A step runs the instructions that stand in the state register and in the two delay-control records, and then ends the
cycle (the serialization layer advances, the next inputs come). The micro-operation of the state is R139's; that one step
also fetches the delay operations as words, and runs them before it, is the model's choice (log entry 1), and so is how the
next inputs come (log entry 7). -/
def Obligations.StepRunsDecoded : Prop :=
  ∀ (s : State) (i dio dclk : Instr), decode .state (stateWord s) = .ok i → decode .dlyCtl (dlyWord .io s) = .ok dio →
    decode .dlyCtl (dlyWord .clk s) = .ok dclk →
    step s = andThen (andThen (andThen (exec dio s) (exec dclk)) (exec i)) (fun t => .next (finishCycle s t))

/-- R77, R186, R205, R212: no step faults and none is refused. -/
def Obligations.StepNeverStops : Prop := ∀ s : State, ∃ t, step s = .next t

/-- The model's choice (log entry 7): each cycle takes the next inputs of the stimulus, and free ones beyond it; cycles are
counted (R9). -/
def Obligations.StepTakesTheNextInputs : Prop :=
  ∀ (s t : State) (k : Nat), step s = .next t → t.inputAt k = s.inputAt (k + 1) ∧ t.cycle = s.cycle + 1

/-- R61, R54 (the model's reading of a request as one cycle, log entry 3): a request is what the sequencer's current state
makes of the bus with it on. Every request completes in every state. -/
def Obligations.RequestsActThroughTheState : Prop :=
  ∀ (s : State) (a : Addr) (d : BitVec 32) (m : BitVec 4) (c : BitVec 3),
    (∃ t, exec (.wr a d m c) s = .next t ∧
      exec (stateInstr s.st) { s with inp := writeOnBus s.inp a d m c } = .next t) ∧
    (∃ t, exec (.wrIncr a d m) s = .next t ∧
      exec (stateInstr s.st) { s with inp := writeOnBus s.inp a d m 0b010#3 } = .next t) ∧
    (∃ t, exec (.rd a c) s = .next t ∧
      exec (stateInstr s.st) { s with inp := readOnBus s.inp a c } = .next t) ∧
    (∃ t, exec (.rdIncr a) s = .next t ∧
      exec (stateInstr s.st) { s with inp := readOnBus s.inp a 0b010#3 } = .next t) ∧
    (∀ i, hostRequest s = some i → exec i s = exec (stateInstr s.st) s)

/-! ### Reset -/

/-- R231: the reset state, whatever the inputs of its cycle (without `rst`). The synchronizer stages are inactive and the
gearboxes zero; delay-line positions are not stated. -/
def Obligations.ResetState : Prop :=
  ∀ i : Inputs, i.rst = false →
    let s := { State.reset with inp := i }
    s.st = .idle ∧ s.cs = false ∧ s.clkEn = false ∧ s.dqOe = false ∧ s.rwdsOe = false ∧ s.srOut = 0#64 ∧ s.srIn = 0#64 ∧
      s.srRwdsOut = 0#8 ∧ s.srRwdsIn = 0#8 ∧ s.tc = 0#6 ∧
      csn s = true ∧ clkEnable s = false ∧ dqO s = 0#32 ∧ rwdsO s = 0#4 ∧ ack s = false ∧
      datR s = 0#16 ++ (dqI s).extractLsb' 16 16 ∧
      s.csnSync = 0b111#3 ∧ s.dqOeSync = 0b000#3 ∧ s.rwdsOeSync = 0b000#3 ∧
      (∀ x ∈ s.txPipe, x = ⟨0#8, false⟩) ∧ (∀ x ∈ s.rxPipe, x = ⟨0#8, false⟩) ∧ (∀ x ∈ s.ckPipe, x = false) ∧
      (∀ p ∈ (pins s).toList, p = ⟨false, true, true, none, none, if Config.hasRstn then some true else none⟩)

/-- R230, R233: a cycle with `rst` acknowledges nothing and every register of R13 takes its reset value, whatever the state;
the tail is not run. That the synchronizers and gearboxes are reset too and the delay lines are not is the model's
reading (log entry 15) and is not stated here. -/
def Obligations.RstOverridesEverything : Prop :=
  ∀ s : State, s.inp.rst = true → ack s = false ∧ ∃ t, step s = .next t ∧
    t.st = .idle ∧ t.cs = false ∧ t.clkEn = false ∧ t.dqOe = false ∧ t.rwdsOe = false ∧ t.srOut = 0#64 ∧ t.srIn = 0#64 ∧
    t.srRwdsOut = 0#8 ∧ t.srRwdsIn = 0#8 ∧ t.tc = 0#6

/-! ### Who writes each register, over all steps without reset -/

/-- R15: `cs` is set by IDLE on a trigger, cleared by CLEANUP, and written by nothing else; `csn` is its complement. -/
def Obligations.ChipSelectRule : Prop :=
  ∀ s : State, s.inp.rst = false → ∃ t, step s = .next t ∧ csn s = !s.cs ∧ State.reset.cs = false ∧
    t.cs = (if s.st = .idle ∧ s.inp.cyc = true ∧ s.inp.stb = true then true
      else if s.st = .cleanup then false else s.cs)

/-- R16: `clk_en` is set by CA-SEND, cleared by CLK-OFF and by READ-ACK with a strobe and no incrementing burst. -/
def Obligations.ClockEnableRule : Prop :=
  ∀ s : State, s.inp.rst = false → ∃ t, step s = .next t ∧ clkEnable s = s.clkEn ∧ State.reset.clkEn = false ∧
    t.clkEn = (if s.st = .caSend then true
      else if s.st = .clkOff then false
      else if s.st = .readAck ∧ (rwdsI s).getLsbD 3 = true ∧ s.inp.cti ≠ 0b010#3 then false else s.clkEn)

/-- R17: `dq_oe` is set by CA-SEND, cleared by LATENCY-WAIT and CLEANUP, loaded with `we` by LATENCY-WAIT3. -/
def Obligations.DataDriverRule : Prop :=
  ∀ s : State, s.inp.rst = false → ∃ t, step s = .next t ∧ State.reset.dqOe = false ∧
    t.dqOe = (if s.st = .caSend then true
      else if s.st = .latencyWait ∨ s.st = .cleanup then false
      else if s.st = .latencyWait3 then s.inp.we else s.dqOe)

/-- R18: `rwds_oe` is loaded with `we` by LATENCY-WAIT3 and cleared by CLEANUP; no other rule writes it. -/
def Obligations.StrobeDriverRule : Prop :=
  ∀ s : State, s.inp.rst = false → ∃ t, step s = .next t ∧ State.reset.rwdsOe = false ∧
    t.rwdsOe = (if s.st = .latencyWait3 then s.inp.we else if s.st = .cleanup then false else s.rwdsOe)

/-- R91, R92: the three loads of `sr_out`, and the shift with zero fill in every other cycle. -/
def Obligations.OutputRegisterRule : Prop :=
  ∀ s : State, s.inp.rst = false → ∃ t, step s = .next t ∧
    t.srOut = (if s.st = .caSend then caWord s.inp.we s.inp.adr ++ 0#16
      else if s.st = .readWrite ∧ s.inp.we = true then s.inp.datW ++ 0#32
      else if s.st = .holdWait then 0#64 else s.srOut <<< 32)

/-- R93: the two loads of `sr_rwds_out`, and the shift with zero fill in every other cycle. -/
def Obligations.StrobeRegisterRule : Prop :=
  ∀ s : State, s.inp.rst = false → ∃ t, step s = .next t ∧
    t.srRwdsOut = (if s.st = .readWrite ∧ s.inp.we = true then ~~~s.inp.sel ++ 0#4
      else if s.st = .holdWait then 0#8 else s.srRwdsOut <<< 4)

/-- R94, R95: both input registers capture the PHY's input word in every cycle, whatever the state. -/
def Obligations.InputRegistersRule : Prop :=
  ∀ s : State, s.inp.rst = false → ∃ t, step s = .next t ∧
    t.srIn.extractLsb' 0 32 = dqI s ∧ t.srIn.extractLsb' 32 32 = s.srIn.extractLsb' 0 32 ∧
    t.srRwdsIn.extractLsb' 0 4 = rwdsI s ∧ t.srRwdsIn.extractLsb' 4 4 = s.srRwdsIn.extractLsb' 0 4

/-- R23, R104: `tc` is written by CA-WAIT and READ-ACK only; the increment is modulo 64. -/
def Obligations.TimeoutCounterRule : Prop :=
  ∀ s : State, s.inp.rst = false → ∃ t, step s = .next t ∧ State.reset.tc = 0#6 ∧
    t.tc.toNat = (if s.st = .caWait then 0
      else if s.st = .readAck then (if (rwdsI s).getLsbD 3 = true then 0 else (s.tc.toNat + 1) % 64) else s.tc.toNat)

/-- R138: the transition table, every transition of the machine. -/
def Obligations.TransitionTable : Prop :=
  ∀ s : State, s.inp.rst = false → ∃ t, step s = .next t ∧
    t.st = (match s.st with
      | .idle => if s.inp.cyc = true ∧ s.inp.stb = true then .caSend else .idle
      | .caSend => .caWait
      | .caWait => .latencyWait
      | .latencyWait => .latencyWait0
      | .latencyWait0 => .latencyWait1
      | .latencyWait1 => .latencyWait2
      | .latencyWait2 => .latencyWait3
      | .latencyWait3 => .readWrite
      | .readWrite =>
        if s.inp.we = true then (if s.inp.cti = 0b010#3 then .readWrite else .clkOff) else .readAck
      | .readAck =>
        if s.inp.cyc = false ∨ 20 < s.tc.toNat then .clkOff
        else if (rwdsI s).getLsbD 3 = true ∧ s.inp.cti ≠ 0b010#3 then .cleanup else .readAck
      | .clkOff => .cleanup
      | .cleanup => .holdWait
      | .holdWait => .holdWait0
      | .holdWait0 => .holdWait1
      | .holdWait1 => .holdWait2
      | .holdWait2 => .holdWait3
      | .holdWait3 => .holdWait4
      | .holdWait4 => .holdWait5
      | .holdWait5 => .holdWait6
      | .holdWait6 => .holdWait7
      | .holdWait7 => .holdWait8
      | .holdWait8 => .holdWait9
      | .holdWait9 => .holdWait10
      | .holdWait10 => .holdWait11
      | .holdWait11 => .holdWait12
      | .holdWait12 => .holdWait13
      | .holdWait13 => .idle)

/-! ### What each instruction does, and that it does nothing else -/

/-- R111 to R113. -/
def Obligations.CommandPhaseEffects : Prop :=
  ∀ s : State,
    exec .idle s = .next
      (if s.inp.cyc = true ∧ s.inp.stb = true then { shiftedLeft s with cs := true, st := .caSend }
       else { shiftedLeft s with st := .idle }) ∧
    exec .caSend s = .next
      { shiftedLeft s with clkEn := true, dqOe := true, srOut := caWord s.inp.we s.inp.adr ++ 0#16, st := .caWait } ∧
    exec .caWait s = .next { shiftedLeft s with tc := 0#6, st := .latencyWait }

/-- R114 to R118. -/
def Obligations.LatencyLadderEffects : Prop :=
  ∀ s : State,
    exec .latencyWait s = .next { shiftedLeft s with dqOe := false, st := .latencyWait0 } ∧
    exec .latencyWait0 s = .next { shiftedLeft s with st := .latencyWait1 } ∧
    exec .latencyWait1 s = .next { shiftedLeft s with st := .latencyWait2 } ∧
    exec .latencyWait2 s = .next { shiftedLeft s with st := .latencyWait3 } ∧
    exec .latencyWait3 s = .next { shiftedLeft s with dqOe := s.inp.we, rwdsOe := s.inp.we, st := .readWrite }

/-- R119: the write sub-path and the read sub-path. -/
def Obligations.ReadWriteEffects : Prop :=
  ∀ s : State,
    exec .readWrite s = .next
      (if s.inp.we = true then
        { shiftedLeft s with
          srOut := s.inp.datW ++ 0#32
          srRwdsOut := ~~~s.inp.sel ++ 0#4
          st := if s.inp.cti = 0b010#3 then .readWrite else .clkOff }
       else { shiftedLeft s with st := .readAck })

/-- R120, R203, R207: the strobe's actions, and an abort that changes the successor only. -/
def Obligations.ReadAckEffects : Prop :=
  ∀ s : State,
    exec .readAck s = .next
      { shiftedLeft s with
        tc := if (rwdsI s).getLsbD 3 = true then 0#6 else s.tc + 1#6
        clkEn := if (rwdsI s).getLsbD 3 = true ∧ s.inp.cti ≠ 0b010#3 then false else s.clkEn
        st :=
          if s.inp.cyc = false ∨ 20 < s.tc.toNat then .clkOff
          else if (rwdsI s).getLsbD 3 = true ∧ s.inp.cti ≠ 0b010#3 then .cleanup else .readAck }

/-- R121 to R123. -/
def Obligations.TailEffects : Prop :=
  ∀ s : State,
    exec .clkOff s = .next { shiftedLeft s with clkEn := false, st := .cleanup } ∧
    exec .cleanup s = .next { shiftedLeft s with cs := false, dqOe := false, rwdsOe := false, st := .holdWait } ∧
    exec .holdWait s = .next { shiftedLeft s with srOut := 0#64, srRwdsOut := 0#8, st := .holdWait0 }

/-- R124 to R137. -/
def Obligations.HoldLadderEffects : Prop :=
  ∀ s : State,
    exec .holdWait0 s = .next { shiftedLeft s with st := .holdWait1 } ∧
    exec .holdWait1 s = .next { shiftedLeft s with st := .holdWait2 } ∧
    exec .holdWait2 s = .next { shiftedLeft s with st := .holdWait3 } ∧
    exec .holdWait3 s = .next { shiftedLeft s with st := .holdWait4 } ∧
    exec .holdWait4 s = .next { shiftedLeft s with st := .holdWait5 } ∧
    exec .holdWait5 s = .next { shiftedLeft s with st := .holdWait6 } ∧
    exec .holdWait6 s = .next { shiftedLeft s with st := .holdWait7 } ∧
    exec .holdWait7 s = .next { shiftedLeft s with st := .holdWait8 } ∧
    exec .holdWait8 s = .next { shiftedLeft s with st := .holdWait9 } ∧
    exec .holdWait9 s = .next { shiftedLeft s with st := .holdWait10 } ∧
    exec .holdWait10 s = .next { shiftedLeft s with st := .holdWait11 } ∧
    exec .holdWait11 s = .next { shiftedLeft s with st := .holdWait12 } ∧
    exec .holdWait12 s = .next { shiftedLeft s with st := .holdWait13 } ∧
    exec .holdWait13 s = .next { shiftedLeft s with st := .idle }

/-- R65 to R68, R90, R92, R93: each load writes one output register and nothing else. That a word or a load is
an action on its own is the model's reading (log entry 6). -/
def Obligations.LoadEffects : Prop :=
  ∀ (s : State) (a : Addr) (c : BitVec 48) (d : BitVec 32) (m : BitVec 4),
    exec (.caRd a) s = .next { s with srOut := (caWord false a).setWidth 64 <<< 16 } ∧
    exec (.caWr a) s = .next { s with srOut := (caWord true a).setWidth 64 <<< 16 } ∧
    exec (.srloadCa c) s = .next { s with srOut := c.setWidth 64 <<< 16 } ∧
    exec (.srloadWd d) s = .next { s with srOut := d.setWidth 64 <<< 32 } ∧
    exec (.srloadWm m) s = .next { s with srRwdsOut := m.setWidth 8 <<< 4 }

/-- R155 to R158: every line of the group takes the load position, moves one step, or keeps its position; nothing else
changes but the remembered `move`. The load position is one constant of each group, the same in every state and
cycle. It and the position beyond an end are free values (U9, log entry 14): this holds for every value of them. -/
def Obligations.DelayOperationEffects : Prop :=
  ∀ (s : State) (m d p : Bool),
    exec (.dlyLoad .io m d p) s = .next
      { s with
        ioLines := ⟨loadPosition .io, loadPosition .io, loadPosition .io, loadPosition .io, loadPosition .io, loadPosition .io,
          loadPosition .io, loadPosition .io, loadPosition .io⟩
        ioMove := m } ∧
    exec (.dlyLoad .clk m d p) s = .next
      { s with clkLines := ⟨loadPosition .clk, loadPosition .clk⟩, clkMove := m } ∧
    loadPosition .io < Config.dlyTaps ∧ loadPosition .clk < Config.dlyTaps ∧
    (∃ e < Config.dlyTaps, ∃ f : Nat → Nat, (∀ x, f x = if x + 1 < Config.dlyTaps then x + 1 else e) ∧
      exec (.dlyUp .io) s = .next
        { s with
          ioLines := ⟨f s.ioLines.dq0, f s.ioLines.dq1, f s.ioLines.dq2, f s.ioLines.dq3, f s.ioLines.dq4, f s.ioLines.dq5,
            f s.ioLines.dq6, f s.ioLines.dq7, f s.ioLines.rwds⟩
          ioMove := true }) ∧
    (∃ e < Config.dlyTaps, ∃ f : Nat → Nat, (∀ x, f x = if x + 1 < Config.dlyTaps then x + 1 else e) ∧
      exec (.dlyUp .clk) s = .next { s with clkLines := ⟨f s.clkLines.ck, f s.clkLines.ckn⟩, clkMove := true }) ∧
    (∃ e < Config.dlyTaps, ∃ f : Nat → Nat, (∀ x, f x = if x = 0 then e else x - 1) ∧
      exec (.dlyDown .io) s = .next
        { s with
          ioLines := ⟨f s.ioLines.dq0, f s.ioLines.dq1, f s.ioLines.dq2, f s.ioLines.dq3, f s.ioLines.dq4, f s.ioLines.dq5,
            f s.ioLines.dq6, f s.ioLines.dq7, f s.ioLines.rwds⟩
          ioMove := true }) ∧
    (∃ e < Config.dlyTaps, ∃ f : Nat → Nat, (∀ x, f x = if x = 0 then e else x - 1) ∧
      exec (.dlyDown .clk) s = .next { s with clkLines := ⟨f s.clkLines.ck, f s.clkLines.ckn⟩, clkMove := true }) ∧
    exec (.dlyHold .io m d p) s = .next { s with ioMove := m } ∧
    exec (.dlyHold .clk m d p) s = .next { s with clkMove := m }

/-- R151, R153 with R54, R111, R112, R118 to R120: what a write request does in each state that reads it, READ-ACK among them
(where `cti` and `cyc` are read whatever `we` is: a host that changed `we` meanwhile). A request as one cycle: log entry 3. -/
def Obligations.WriteRequestEffects : Prop :=
  ∀ (s : State) (a : Addr) (d : BitVec 32) (m : BitVec 4) (c : BitVec 3), c ≠ 0b010#3 →
    (s.st = .idle →
      exec (.wr a d m c) s = .next { shiftedLeft s with inp := writeOnBus s.inp a d m c, cs := true, st := .caSend } ∧
      exec (.wrIncr a d m) s = .next
        { shiftedLeft s with inp := writeOnBus s.inp a d m 0b010#3, cs := true, st := .caSend }) ∧
    (s.st = .caSend →
      exec (.wr a d m c) s = .next
        { shiftedLeft s with
          inp := writeOnBus s.inp a d m c, clkEn := true, dqOe := true, srOut := caWord true a ++ 0#16, st := .caWait } ∧
      exec (.wrIncr a d m) s = .next
        { shiftedLeft s with
          inp := writeOnBus s.inp a d m 0b010#3, clkEn := true, dqOe := true, srOut := caWord true a ++ 0#16
          st := .caWait }) ∧
    (s.st = .latencyWait3 →
      exec (.wr a d m c) s = .next
        { shiftedLeft s with inp := writeOnBus s.inp a d m c, dqOe := true, rwdsOe := true, st := .readWrite } ∧
      exec (.wrIncr a d m) s = .next
        { shiftedLeft s with inp := writeOnBus s.inp a d m 0b010#3, dqOe := true, rwdsOe := true, st := .readWrite }) ∧
    (s.st = .readWrite →
      exec (.wr a d m c) s = .next
        { shiftedLeft s with
          inp := writeOnBus s.inp a d m c, srOut := d ++ 0#32, srRwdsOut := ~~~m ++ 0#4, st := .clkOff } ∧
      exec (.wrIncr a d m) s = .next
        { shiftedLeft s with
          inp := writeOnBus s.inp a d m 0b010#3, srOut := d ++ 0#32, srRwdsOut := ~~~m ++ 0#4, st := .readWrite }) ∧
    (s.st = .readAck →
      exec (.wr a d m c) s = .next
        { shiftedLeft s with
          inp := writeOnBus s.inp a d m c
          tc := if (rwdsI s).getLsbD 3 = true then 0#6 else s.tc + 1#6
          clkEn := if (rwdsI s).getLsbD 3 = true then false else s.clkEn
          st :=
            if 20 < s.tc.toNat then .clkOff else if (rwdsI s).getLsbD 3 = true then .cleanup else .readAck } ∧
      exec (.wrIncr a d m) s = .next
        { shiftedLeft s with
          inp := writeOnBus s.inp a d m 0b010#3
          tc := if (rwdsI s).getLsbD 3 = true then 0#6 else s.tc + 1#6
          st := if 20 < s.tc.toNat then .clkOff else .readAck })

/-- R152, R154 with R111, R112, R118 to R120: what a read request does in each state that reads it (a request
as one cycle: log entry 3). -/
def Obligations.ReadRequestEffects : Prop :=
  ∀ (s : State) (a : Addr) (c : BitVec 3), c ≠ 0b010#3 →
    (s.st = .idle →
      exec (.rd a c) s = .next { shiftedLeft s with inp := readOnBus s.inp a c, cs := true, st := .caSend } ∧
      exec (.rdIncr a) s = .next { shiftedLeft s with inp := readOnBus s.inp a 0b010#3, cs := true, st := .caSend }) ∧
    (s.st = .caSend →
      exec (.rd a c) s = .next
        { shiftedLeft s with
          inp := readOnBus s.inp a c, clkEn := true, dqOe := true, srOut := caWord false a ++ 0#16, st := .caWait } ∧
      exec (.rdIncr a) s = .next
        { shiftedLeft s with
          inp := readOnBus s.inp a 0b010#3, clkEn := true, dqOe := true, srOut := caWord false a ++ 0#16
          st := .caWait }) ∧
    (s.st = .latencyWait3 →
      exec (.rd a c) s = .next
        { shiftedLeft s with inp := readOnBus s.inp a c, dqOe := false, rwdsOe := false, st := .readWrite } ∧
      exec (.rdIncr a) s = .next
        { shiftedLeft s with inp := readOnBus s.inp a 0b010#3, dqOe := false, rwdsOe := false, st := .readWrite }) ∧
    (s.st = .readWrite →
      exec (.rd a c) s = .next { shiftedLeft s with inp := readOnBus s.inp a c, st := .readAck } ∧
      exec (.rdIncr a) s = .next { shiftedLeft s with inp := readOnBus s.inp a 0b010#3, st := .readAck }) ∧
    (s.st = .readAck →
      exec (.rd a c) s = .next
        { shiftedLeft s with
          inp := readOnBus s.inp a c
          tc := if (rwdsI s).getLsbD 3 = true then 0#6 else s.tc + 1#6
          clkEn := if (rwdsI s).getLsbD 3 = true then false else s.clkEn
          st :=
            if 20 < s.tc.toNat then .clkOff else if (rwdsI s).getLsbD 3 = true then .cleanup else .readAck } ∧
      exec (.rdIncr a) s = .next
        { shiftedLeft s with
          inp := readOnBus s.inp a 0b010#3
          tc := if (rwdsI s).getLsbD 3 = true then 0#6 else s.tc + 1#6
          st := if 20 < s.tc.toNat then .clkOff else .readAck })

/-! ### Outputs, lanes and pins -/

/-- R100, R230: acknowledge, with `ACK_ON_ABORT_CYCLE = true`; 0 while `rst` is 1. -/
def Obligations.AcknowledgeRule : Prop :=
  ∀ s : State, ack s = true ↔
    s.inp.rst = false ∧
      ((s.st = .readWrite ∧ s.inp.we = true) ∨ (s.st = .readAck ∧ (rwdsI s).getLsbD 3 = true))

/-- R161, R52: `dat_r` in a cycle is phases 2 and 3 of the cycle before and phases 0 and 1 of this one, in that order from
`dat_r[31:24]` down. -/
def Obligations.ReadWindowAcrossCycles : Prop :=
  ∀ s : State, s.inp.rst = false → ∃ t, step s = .next t ∧
    datR t = (dqI s).extractLsb' 8 8 ++ (dqI s).extractLsb' 0 8 ++ (dqI t).extractLsb' 24 8 ++ (dqI t).extractLsb' 16 8 ∧
    hostResponse t = ⟨ack t, datR t⟩

/-- R70, R72: phase `p` carries `W[8*(3-p) + j]` on lane `j` and `V[3-p]` on the strobe lane. -/
def Obligations.LaneOrder : Prop :=
  ∀ (w : BitVec 32) (v : BitVec 4) (p j : Nat), p < 4 → j < 8 →
    ∃ x, (laneSamples w v).toList[p]? = some x ∧ x.dq.getLsbD j = w.getLsbD (8 * (3 - p) + j) ∧
      x.rwds = v.getLsbD (3 - p)

/-- R71, R72, R189: the receive formats undo the transmit formats, and the other way round: nothing is lost. -/
def Obligations.LaneFormatsInvert : Prop :=
  (∀ (w : BitVec 32) (v : BitVec 4), packDq (laneSamples w v) = w ∧ packRwds (laneSamples w v) = v) ∧
    (∀ q : Quad LaneSample, laneSamples (packDq q) (packRwds q) = q)

/-- R172, R173, R176 to R179: over any number of cycles without reset, what the pins carry bit-time by bit-time is what the
parallel interface was given, later by the length of each pipe (`L_CTL`, `L_TX`, `L_CK`), each value once and in order; a
lane is driven exactly where its delayed enable is 1, and `CKn` is always the complement of `CK`. That the controls reach the
pins as a pure delay, and not through the three stages, is the model's choice (log entry 11); so are the pattern 1, 0, 1, 0 of
the clock and its one pipeline for both copies (log entry 12). The pipelines are lists of bit-times (log entry 10). -/
def Obligations.PinsAreThePureDelayOfTheInterface : Prop :=
  ∀ (n : Nat) (s : State), s.unreset n →
    let ctl := (s.ctlPipe ++ (traceOf (fun u => List.replicate 4 (⟨!u.cs, u.dqOe, u.rwdsOe⟩ : CtlSample)) n s).flatten).take (4 * n)
    let tx := (s.txPipe ++ (traceOf (fun u => (laneSamples (dqO u) (rwdsO u)).toList) n s).flatten).take (4 * n)
    let ck := (s.ckPipe ++
      (traceOf (fun u => if u.clkEn = true ∧ u.cs = true then [true, false, true, false] else List.replicate 4 false) n s).flatten).take
        (4 * n)
    let at_ := (traceOf (fun u => (pins u).toList) n s).flatten
    at_.map (fun p => p.csn) = ctl.map (fun c => c.csn) ∧
      at_.map (fun p => p.ck) = ck ∧
      at_.map (fun p => p.ckn) = ck.map (fun k => !k) ∧
      at_.map (fun p => p.dq) = List.zipWith (fun c l => if c.dqOe then some l.dq else none) ctl tx ∧
      at_.map (fun p => p.rwds) = List.zipWith (fun c l => if c.rwdsOe then some l.rwds else none) ctl tx

/-- R174, R175, R189: over any number of cycles without reset, the words the receive gearbox presents are the samples of the
pins, later by the length of the pipe (`L_RX`), each bit-time once and in order. -/
def Obligations.ReceiveIsAPureDelay : Prop :=
  ∀ (n : Nat) (s : State), s.unreset n →
    (traceOf (fun u => (laneSamples (dqI u) (rwdsI u)).toList) n s).flatten =
      (s.rxPipe ++ (traceOf (fun u => u.inp.rx.toList) n s).flatten).take (4 * n)

/-- R103, R184: the device reset line is high whenever it is present, in every bit-time of every cycle, `rst` or not. -/
def Obligations.ResetLineAlwaysHigh : Prop :=
  ∀ s : State, ∀ p ∈ (pins s).toList, p.rstn = if Config.hasRstn then some true else none

/-- R176: each synchronizer has three stages: what enters comes out at the third edge. And a step clocks the three chains with
the controls of the cycle, all by one edge or all by two: that clause is the model's choice (log entry 11), since the spec
does not say which clock it is and folds the delay of the stages into `L_CTL`. -/
def Obligations.SynchronizersHaveThreeStages : Prop :=
  (∀ (c : BitVec 3) (x y z : Bool), syncOut (syncEdge (syncEdge (syncEdge c x) y) z) = x) ∧
    ∀ s : State, s.inp.rst = false → ∃ t, step s = .next t ∧
      ((t.csnSync = syncEdge s.csnSync (!s.cs) ∧ t.dqOeSync = syncEdge s.dqOeSync s.dqOe ∧
          t.rwdsOeSync = syncEdge s.rwdsOeSync s.rwdsOe) ∨
        (t.csnSync = syncEdge (syncEdge s.csnSync (!s.cs)) (!s.cs) ∧
          t.dqOeSync = syncEdge (syncEdge s.dqOeSync s.dqOe) s.dqOe ∧
          t.rwdsOeSync = syncEdge (syncEdge s.rwdsOeSync s.rwdsOe) s.rwdsOe))

/-- R180: the gate of the device clock is `clk_enable and not csn`, which in every run is `clk_en` alone. -/
def Obligations.ClockGateIsClockEnable : Prop :=
  ∀ s : State, s.Inv → clockGate s = (clkEnable s && !csn s) ∧ clockGate s = s.clkEn

/-- R46, R51: after a write beat the lanes carry, in the four phases, the four bytes of the word with a strobe of 0 exactly
at the bytes the beat asks the device to write, at the device byte offsets of the beat. -/
def Obligations.WriteBeatLanesAskTheDevice : Prop :=
  ∀ (s : State) (ha : Nat), s.inp.rst = false → s.st = .readWrite → s.inp.we = true → ∃ t, step s = .next t ∧
    ∀ (p : Nat) (x : LaneSample), (txSamples t).toList[p]? = some x →
      x.dq = s.inp.datW.extractLsb' (8 * (3 - p)) 8 ∧
      ((2 * ha + p, x.dq) ∈ writeAsks ha s.inp.datW s.inp.sel ↔ x.rwds = false)

/-! ### Invariants -/

/-- The reset state has the invariant (R231). That the delay lines are in range at reset rests on the model's value 0 for
them (log entry 13). -/
def Obligations.ResetHasInv : Prop := State.reset.Inv

/-- R142, R104, R23, R29, R30: every step keeps the invariant, from every state that has it. -/
def Obligations.StepKeepsInv : Prop := ∀ s t : State, s.Inv → step s = .next t → t.Inv

/-- R30: lines of a group that agree go on agreeing, and from a load on they agree. -/
def Obligations.GroupLinesStayTogether : Prop :=
  ∀ s t : State, step s = .next t →
    (s.ioLines.agree ∨ s.inp.dlyIo.loadn = false → t.ioLines.agree) ∧
      (s.clkLines.agree ∨ s.inp.dlyClk.loadn = false → t.clkLines.agree)

/-! ### What a step does not depend on -/

/-- R54: a change of a host field in a cycle in which it is not sampled is not seen. -/
def Obligations.FieldsAreReadAtTheirSamplingPoints : Prop :=
  ∀ s : State,
    (∀ a, s.st ≠ .caSend → step { s with inp := { s.inp with adr := a } } = step s) ∧
    (∀ d m, s.st ≠ .readWrite → step { s with inp := { s.inp with datW := d, sel := m } } = step s) ∧
    (∀ b, s.st ≠ .idle → step { s with inp := { s.inp with stb := b } } = step s) ∧
    (∀ b, s.st ≠ .idle → s.st ≠ .readAck → step { s with inp := { s.inp with cyc := b } } = step s) ∧
    (∀ c, s.st ≠ .readWrite → s.st ≠ .readAck → step { s with inp := { s.inp with cti := c } } = step s) ∧
    (∀ b, s.st ≠ .caSend → s.st ≠ .latencyWait3 → s.st ≠ .readWrite →
      step { s with inp := { s.inp with we := b } } = step s) ∧
    (∀ d m, s.inp.we = false → step { s with inp := { s.inp with datW := d, sel := m } } = step s)

/-- R183, R155 to R158: delay lines and their controls change nothing but the delay lines: two machines that differ in
them alone differ after a step in them alone, and show the same to host and pins. -/
def Obligations.DelayLinesAreTransparent : Prop :=
  ∀ (s : State) (a : IoLines) (b : ClkLines) (c d : Bool) (x y : DlyRecord),
    let s' := { s with ioLines := a, clkLines := b, ioMove := c, clkMove := d, inp := { s.inp with dlyIo := x, dlyClk := y } }
    hostResponse s' = hostResponse s ∧ pins s' = pins s ∧
      ∃ t t', step s = .next t ∧ step s' = .next t' ∧
        t' = { t with ioLines := t'.ioLines, clkLines := t'.clkLines, ioMove := t'.ioMove, clkMove := t'.clkMove }

/-! ### Courses of whole transactions -/

/-- R150: the first nine cycles of every transaction. Only the fields sampled in them matter. -/
def Obligations.CommonCourseOfATransaction : Prop :=
  ∀ s : State, s.Inv → s.st = .idle → s.unreset 9 → (s.inputAt 0).cyc = true → (s.inputAt 0).stb = true →
    traceOf shown 9 s =
      commonCourse (caWord (s.inputAt 1).we (s.inputAt 1).adr) (s.inputAt 7).we (s.inputAt 8).we

/-- R151: the course of a single write, trigger to the next IDLE cycle: one acknowledge, in cycle 8; the word and its mask
on the lanes in cycle 9; IDLE in cycle 26. -/
def Obligations.SingleWriteCourse : Prop :=
  ∀ s : State, s.Inv → s.st = .idle → s.unreset 26 → (s.inputAt 0).cyc = true → (s.inputAt 0).stb = true →
    (s.inputAt 1).we = true → (s.inputAt 7).we = true → (s.inputAt 8).we = true → (s.inputAt 8).cti ≠ 0b010#3 →
    traceOf shown 27 s =
      commonCourse (caWord true (s.inputAt 1).adr) true true ++
        [⟨.clkOff, true, true, true, true, (s.inputAt 8).datW, ~~~(s.inputAt 8).sel, false⟩,
         ⟨.cleanup, true, false, true, true, 0#32, 0#4, false⟩] ++
        holdStates.map quietShown ++ [quietShown .idle]

/-- R153: a burst write of `k + 1` beats, from its first READ-WRITE cycle: `k + 1` acknowledges in consecutive cycles, each
word and mask on the lanes one cycle after its acknowledge, then CLK-OFF. There is no limit on `k`. -/
def Obligations.BurstWriteCourse : Prop :=
  ∀ (k : Nat) (s : State), s.st = .readWrite → s.unreset (k + 1) →
    (∀ j ≤ k, (s.inputAt j).we = true) → (∀ j < k, (s.inputAt j).cti = 0b010#3) → (s.inputAt k).cti ≠ 0b010#3 →
    traceOf (fun u => (u.st, ack u)) (k + 2) s = List.replicate (k + 1) (.readWrite, true) ++ [(.clkOff, false)] ∧
      (traceOf (fun u => (dqO u, rwdsO u)) (k + 2) s).tail =
        (List.range (k + 1)).map (fun j => ((s.inputAt j).datW, ~~~(s.inputAt j).sel))

/-- R152: a single read, from its first READ-ACK cycle, with the first strobe in the `k + 1`-th, `k` at most 21: one
acknowledge, in that cycle; then CLEANUP, the hold ladder and IDLE, with CLK-OFF before CLEANUP exactly where the strobe
came in the abort cycle (`k = 21`). -/
def Obligations.SingleReadCourse : Prop :=
  ∀ (k : Nat) (s : State), k ≤ 21 → s.st = .readAck → s.tc = 0#6 → s.unreset (k + 19) →
    (∀ j ≤ k, (s.inputAt j).cyc = true) → (s.inputAt k).cti ≠ 0b010#3 →
    traceOf vstb (k + 1) s = List.replicate k false ++ [true] →
    traceOf (fun u => (u.st, ack u)) (k + 18 + (if k = 21 then 1 else 0)) s =
      List.replicate k (.readAck, false) ++ [(.readAck, true)] ++ (if k = 21 then [(.clkOff, false)] else []) ++
        [(.cleanup, false)] ++ holdStates.map (fun h => (h, false)) ++ [(.idle, false)]

/-- R201, R204, R209: a read that gets no strobe and is not cancelled: 22 READ-ACK cycles, no acknowledge, and IDLE 39 cycles
after the first of them. -/
def Obligations.ReadTimeoutCourse : Prop :=
  ∀ s : State, s.st = .readAck → s.tc = 0#6 → s.unreset 40 → (∀ j < 22, (s.inputAt j).cyc = true) →
    traceOf vstb 22 s = List.replicate 22 false →
    traceOf (fun u => (u.st, ack u)) 40 s =
      List.replicate 22 (.readAck, false) ++ [(.clkOff, false), (.cleanup, false)] ++
        holdStates.map (fun h => (h, false)) ++ [(.idle, false)]

/-- R202, R209, R210: a host that drops `cyc` in a READ-ACK cycle aborts the read there; the tail runs whatever the inputs
are, acknowledges nothing, and IDLE is the 18th cycle after the abort cycle. -/
def Obligations.CancelCourse : Prop :=
  ∀ s : State, s.st = .readAck → s.unreset 19 → (s.inputAt 0).cyc = false →
    (traceOf (fun u => (u.st, ack u)) 19 s).tail =
      [(.clkOff, false), (.cleanup, false)] ++ holdStates.map (fun h => (h, false)) ++ [(.idle, false)]

/-- R154, R152, R104: the READ-ACK cycles of a burst read, any number of beats with any gaps. `vs` tells in which cycles before
the last beat there is a strobe; `cti` is `0b010` in those that have one, and another code in the last beat's. No cycle before
the last beat is the 22nd of its gap. Each strobe is acknowledged and nothing else is; `tc` counts from 0 in each gap; after the
last beat come CLEANUP, the hold ladder and IDLE, with CLK-OFF before CLEANUP exactly where the last beat came in the 22nd
cycle of its gap. -/
def Obligations.BurstReadCourse : Prop :=
  ∀ (vs : List Bool) (s : State), s.st = .readAck → s.tc = 0#6 → s.unreset (vs.length + 19) →
    (∀ j ≤ vs.length, (s.inputAt j).cyc = true) →
    (∀ j < vs.length, vs[j]? = some true → (s.inputAt j).cti = 0b010#3) → (s.inputAt vs.length).cti ≠ 0b010#3 →
    (∀ g ∈ gaps 0 vs, g ≤ 20) → traceOf vstb (vs.length + 1) s = vs ++ [true] →
    traceOf (fun u => (u.st, ack u, u.tc.toNat)) (vs.length + 18 + (if gapAfter 0 vs = 21 then 1 else 0)) s =
      List.zipWith (fun v g => (.readAck, v, g)) vs (gaps 0 vs) ++ [(.readAck, true, gapAfter 0 vs)] ++
        (if gapAfter 0 vs = 21 then [(.clkOff, false, 0)] else []) ++
        [(.cleanup, false, 0)] ++ holdStates.map (fun h => (h, false, 0)) ++ [(.idle, false, 0)]

/-- R154, R201, R209: a burst read whose gap lasts 22 cycles is aborted in the 22nd, `tc` being 21 there: the beats before the
gap were acknowledged, nothing is acknowledged any more, and IDLE is the 18th cycle after the abort cycle. -/
def Obligations.BurstReadGapAborts : Prop :=
  ∀ (vs : List Bool) (s : State), s.st = .readAck → s.tc = 0#6 → s.unreset (vs.length + 19) →
    (∀ j ≤ vs.length, (s.inputAt j).cyc = true) →
    (∀ j < vs.length, vs[j]? = some true → (s.inputAt j).cti = 0b010#3) →
    (∀ g ∈ gaps 0 vs, g ≤ 20) → gapAfter 0 vs = 21 → traceOf vstb (vs.length + 1) s = vs ++ [false] →
    traceOf (fun u => (u.st, ack u, u.tc.toNat)) (vs.length + 19) s =
      List.zipWith (fun v g => (.readAck, v, g)) vs (gaps 0 vs) ++ [(.readAck, false, 21)] ++
        [(.clkOff, false, 22), (.cleanup, false, 22)] ++ holdStates.map (fun h => (h, false, 22)) ++ [(.idle, false, 22)]

/-! ### Which delay operation a record is -/

/-- R75, R182, R155 to R158: over a step, the lines of a group take the load position while `loadn = 0`, move by one according
to `direction` where `loadn = 1` and `move` is 1 now and was 0 one cycle earlier, and keep their positions otherwise; and the
`move` of this cycle is what the next one finds as the earlier value. The load position and the position beyond an end are
free values (log entry 14). That this holds in a cycle with `rst = 1` too is the model's reading (log entry 15). -/
def Obligations.DelayRecordsMoveTheLines : Prop :=
  ∀ s : State, ∃ t, step s = .next t ∧
    t.ioMove = s.inp.dlyIo.move ∧ t.clkMove = s.inp.dlyClk.move ∧
    (∃ e < Config.dlyTaps, ∃ f : Nat → Nat,
      (∀ x, f x =
        if s.inp.dlyIo.loadn = false then loadPosition .io
        else if s.inp.dlyIo.move = true ∧ s.ioMove = false then
          (if s.inp.dlyIo.direction = true then (if x = 0 then e else x - 1)
           else if x + 1 < Config.dlyTaps then x + 1 else e)
        else x) ∧
      t.ioLines = ⟨f s.ioLines.dq0, f s.ioLines.dq1, f s.ioLines.dq2, f s.ioLines.dq3, f s.ioLines.dq4, f s.ioLines.dq5,
        f s.ioLines.dq6, f s.ioLines.dq7, f s.ioLines.rwds⟩) ∧
    (∃ e < Config.dlyTaps, ∃ f : Nat → Nat,
      (∀ x, f x =
        if s.inp.dlyClk.loadn = false then loadPosition .clk
        else if s.inp.dlyClk.move = true ∧ s.clkMove = false then
          (if s.inp.dlyClk.direction = true then (if x = 0 then e else x - 1)
           else if x + 1 < Config.dlyTaps then x + 1 else e)
        else x) ∧
      t.clkLines = ⟨f s.clkLines.ck, f s.clkLines.ckn⟩)

/-! ### How long the device is selected -/

/-- 70_reset_and_hazards.md R251 (43_phy.md R178 says eleven or more; the model follows the state rules, log entry 23): from
CA-SEND on, `csn` is 0 for at least ten cycles, whatever the host and the lanes do; and in a write of one beat it is 1 again in
the eleventh, as it is in a read with a strobe in its first READ-ACK cycle that ends there. -/
def Obligations.DeviceSelectedForTenCycles : Prop :=
  ∀ s : State, s.st = .caSend → s.cs = true → s.unreset 10 →
    traceOf csn 10 s = List.replicate 10 false ∧
      ((s.inputAt 7).we = true → (s.inputAt 7).cti ≠ 0b010#3 → traceOf csn 11 s = List.replicate 10 false ++ [true]) ∧
      ((s.inputAt 7).we = false → (s.inputAt 8).cyc = true → (s.inputAt 8).cti ≠ 0b010#3 →
        (traceOf vstb 9 s).getLast? = some true → traceOf csn 11 s = List.replicate 10 false ++ [true])
end

