-- ==== Sys2Proof/Laws/State.lean ====
section
/-! SUPPORT. One lemma per field per update: what each named operation on the state does to each field. -/

namespace Sys2Proof.Machine

@[simp] theorem shiftAll_st (s : State) : (shiftAll s).st = s.st := rfl
@[simp] theorem shiftAll_cs (s : State) : (shiftAll s).cs = s.cs := rfl
@[simp] theorem shiftAll_clkEn (s : State) : (shiftAll s).clkEn = s.clkEn := rfl
@[simp] theorem shiftAll_dqOe (s : State) : (shiftAll s).dqOe = s.dqOe := rfl
@[simp] theorem shiftAll_rwdsOe (s : State) : (shiftAll s).rwdsOe = s.rwdsOe := rfl
@[simp] theorem shiftAll_srOut (s : State) : (shiftAll s).srOut = s.srOut.extractLsb' 0 32 ++ 0#32 := rfl
@[simp] theorem shiftAll_srIn (s : State) : (shiftAll s).srIn = s.srIn.extractLsb' 0 32 ++ dqI s := rfl
@[simp] theorem shiftAll_srRwdsOut (s : State) : (shiftAll s).srRwdsOut = s.srRwdsOut.extractLsb' 0 4 ++ 0#4 := rfl
@[simp] theorem shiftAll_srRwdsIn (s : State) : (shiftAll s).srRwdsIn = s.srRwdsIn.extractLsb' 0 4 ++ rwdsI s := rfl
@[simp] theorem shiftAll_tc (s : State) : (shiftAll s).tc = s.tc := rfl
@[simp] theorem shiftAll_csnSync (s : State) : (shiftAll s).csnSync = s.csnSync := rfl
@[simp] theorem shiftAll_dqOeSync (s : State) : (shiftAll s).dqOeSync = s.dqOeSync := rfl
@[simp] theorem shiftAll_rwdsOeSync (s : State) : (shiftAll s).rwdsOeSync = s.rwdsOeSync := rfl
@[simp] theorem shiftAll_ctlPipe (s : State) : (shiftAll s).ctlPipe = s.ctlPipe := rfl
@[simp] theorem shiftAll_txPipe (s : State) : (shiftAll s).txPipe = s.txPipe := rfl
@[simp] theorem shiftAll_ckPipe (s : State) : (shiftAll s).ckPipe = s.ckPipe := rfl
@[simp] theorem shiftAll_rxPipe (s : State) : (shiftAll s).rxPipe = s.rxPipe := rfl
@[simp] theorem shiftAll_ioLines (s : State) : (shiftAll s).ioLines = s.ioLines := rfl
@[simp] theorem shiftAll_clkLines (s : State) : (shiftAll s).clkLines = s.clkLines := rfl
@[simp] theorem shiftAll_ioMove (s : State) : (shiftAll s).ioMove = s.ioMove := rfl
@[simp] theorem shiftAll_clkMove (s : State) : (shiftAll s).clkMove = s.clkMove := rfl
@[simp] theorem shiftAll_inp (s : State) : (shiftAll s).inp = s.inp := rfl
@[simp] theorem shiftAll_stim (s : State) : (shiftAll s).stim = s.stim := rfl
@[simp] theorem shiftAll_cycle (s : State) : (shiftAll s).cycle = s.cycle := rfl

@[simp] theorem loadCommand_st (ca : BitVec 48) (s : State) : (loadCommand ca s).st = s.st := rfl
@[simp] theorem loadCommand_cs (ca : BitVec 48) (s : State) : (loadCommand ca s).cs = s.cs := rfl
@[simp] theorem loadCommand_clkEn (ca : BitVec 48) (s : State) : (loadCommand ca s).clkEn = s.clkEn := rfl
@[simp] theorem loadCommand_dqOe (ca : BitVec 48) (s : State) : (loadCommand ca s).dqOe = s.dqOe := rfl
@[simp] theorem loadCommand_rwdsOe (ca : BitVec 48) (s : State) : (loadCommand ca s).rwdsOe = s.rwdsOe := rfl
@[simp] theorem loadCommand_srOut (ca : BitVec 48) (s : State) : (loadCommand ca s).srOut = ca ++ 0#16 := rfl
@[simp] theorem loadCommand_srIn (ca : BitVec 48) (s : State) : (loadCommand ca s).srIn = s.srIn := rfl
@[simp] theorem loadCommand_srRwdsOut (ca : BitVec 48) (s : State) : (loadCommand ca s).srRwdsOut = s.srRwdsOut := rfl
@[simp] theorem loadCommand_srRwdsIn (ca : BitVec 48) (s : State) : (loadCommand ca s).srRwdsIn = s.srRwdsIn := rfl
@[simp] theorem loadCommand_tc (ca : BitVec 48) (s : State) : (loadCommand ca s).tc = s.tc := rfl
@[simp] theorem loadCommand_csnSync (ca : BitVec 48) (s : State) : (loadCommand ca s).csnSync = s.csnSync := rfl
@[simp] theorem loadCommand_dqOeSync (ca : BitVec 48) (s : State) : (loadCommand ca s).dqOeSync = s.dqOeSync := rfl
@[simp] theorem loadCommand_rwdsOeSync (ca : BitVec 48) (s : State) : (loadCommand ca s).rwdsOeSync = s.rwdsOeSync := rfl
@[simp] theorem loadCommand_ctlPipe (ca : BitVec 48) (s : State) : (loadCommand ca s).ctlPipe = s.ctlPipe := rfl
@[simp] theorem loadCommand_txPipe (ca : BitVec 48) (s : State) : (loadCommand ca s).txPipe = s.txPipe := rfl
@[simp] theorem loadCommand_ckPipe (ca : BitVec 48) (s : State) : (loadCommand ca s).ckPipe = s.ckPipe := rfl
@[simp] theorem loadCommand_rxPipe (ca : BitVec 48) (s : State) : (loadCommand ca s).rxPipe = s.rxPipe := rfl
@[simp] theorem loadCommand_ioLines (ca : BitVec 48) (s : State) : (loadCommand ca s).ioLines = s.ioLines := rfl
@[simp] theorem loadCommand_clkLines (ca : BitVec 48) (s : State) : (loadCommand ca s).clkLines = s.clkLines := rfl
@[simp] theorem loadCommand_ioMove (ca : BitVec 48) (s : State) : (loadCommand ca s).ioMove = s.ioMove := rfl
@[simp] theorem loadCommand_clkMove (ca : BitVec 48) (s : State) : (loadCommand ca s).clkMove = s.clkMove := rfl
@[simp] theorem loadCommand_inp (ca : BitVec 48) (s : State) : (loadCommand ca s).inp = s.inp := rfl
@[simp] theorem loadCommand_stim (ca : BitVec 48) (s : State) : (loadCommand ca s).stim = s.stim := rfl
@[simp] theorem loadCommand_cycle (ca : BitVec 48) (s : State) : (loadCommand ca s).cycle = s.cycle := rfl

@[simp] theorem loadData_st (w : BitVec 32) (s : State) : (loadData w s).st = s.st := rfl
@[simp] theorem loadData_cs (w : BitVec 32) (s : State) : (loadData w s).cs = s.cs := rfl
@[simp] theorem loadData_clkEn (w : BitVec 32) (s : State) : (loadData w s).clkEn = s.clkEn := rfl
@[simp] theorem loadData_dqOe (w : BitVec 32) (s : State) : (loadData w s).dqOe = s.dqOe := rfl
@[simp] theorem loadData_rwdsOe (w : BitVec 32) (s : State) : (loadData w s).rwdsOe = s.rwdsOe := rfl
@[simp] theorem loadData_srOut (w : BitVec 32) (s : State) : (loadData w s).srOut = w ++ 0#32 := rfl
@[simp] theorem loadData_srIn (w : BitVec 32) (s : State) : (loadData w s).srIn = s.srIn := rfl
@[simp] theorem loadData_srRwdsOut (w : BitVec 32) (s : State) : (loadData w s).srRwdsOut = s.srRwdsOut := rfl
@[simp] theorem loadData_srRwdsIn (w : BitVec 32) (s : State) : (loadData w s).srRwdsIn = s.srRwdsIn := rfl
@[simp] theorem loadData_tc (w : BitVec 32) (s : State) : (loadData w s).tc = s.tc := rfl
@[simp] theorem loadData_csnSync (w : BitVec 32) (s : State) : (loadData w s).csnSync = s.csnSync := rfl
@[simp] theorem loadData_dqOeSync (w : BitVec 32) (s : State) : (loadData w s).dqOeSync = s.dqOeSync := rfl
@[simp] theorem loadData_rwdsOeSync (w : BitVec 32) (s : State) : (loadData w s).rwdsOeSync = s.rwdsOeSync := rfl
@[simp] theorem loadData_ctlPipe (w : BitVec 32) (s : State) : (loadData w s).ctlPipe = s.ctlPipe := rfl
@[simp] theorem loadData_txPipe (w : BitVec 32) (s : State) : (loadData w s).txPipe = s.txPipe := rfl
@[simp] theorem loadData_ckPipe (w : BitVec 32) (s : State) : (loadData w s).ckPipe = s.ckPipe := rfl
@[simp] theorem loadData_rxPipe (w : BitVec 32) (s : State) : (loadData w s).rxPipe = s.rxPipe := rfl
@[simp] theorem loadData_ioLines (w : BitVec 32) (s : State) : (loadData w s).ioLines = s.ioLines := rfl
@[simp] theorem loadData_clkLines (w : BitVec 32) (s : State) : (loadData w s).clkLines = s.clkLines := rfl
@[simp] theorem loadData_ioMove (w : BitVec 32) (s : State) : (loadData w s).ioMove = s.ioMove := rfl
@[simp] theorem loadData_clkMove (w : BitVec 32) (s : State) : (loadData w s).clkMove = s.clkMove := rfl
@[simp] theorem loadData_inp (w : BitVec 32) (s : State) : (loadData w s).inp = s.inp := rfl
@[simp] theorem loadData_stim (w : BitVec 32) (s : State) : (loadData w s).stim = s.stim := rfl
@[simp] theorem loadData_cycle (w : BitVec 32) (s : State) : (loadData w s).cycle = s.cycle := rfl

@[simp] theorem loadMask_st (m : BitVec 4) (s : State) : (loadMask m s).st = s.st := rfl
@[simp] theorem loadMask_cs (m : BitVec 4) (s : State) : (loadMask m s).cs = s.cs := rfl
@[simp] theorem loadMask_clkEn (m : BitVec 4) (s : State) : (loadMask m s).clkEn = s.clkEn := rfl
@[simp] theorem loadMask_dqOe (m : BitVec 4) (s : State) : (loadMask m s).dqOe = s.dqOe := rfl
@[simp] theorem loadMask_rwdsOe (m : BitVec 4) (s : State) : (loadMask m s).rwdsOe = s.rwdsOe := rfl
@[simp] theorem loadMask_srOut (m : BitVec 4) (s : State) : (loadMask m s).srOut = s.srOut := rfl
@[simp] theorem loadMask_srIn (m : BitVec 4) (s : State) : (loadMask m s).srIn = s.srIn := rfl
@[simp] theorem loadMask_srRwdsOut (m : BitVec 4) (s : State) : (loadMask m s).srRwdsOut = m ++ 0#4 := rfl
@[simp] theorem loadMask_srRwdsIn (m : BitVec 4) (s : State) : (loadMask m s).srRwdsIn = s.srRwdsIn := rfl
@[simp] theorem loadMask_tc (m : BitVec 4) (s : State) : (loadMask m s).tc = s.tc := rfl
@[simp] theorem loadMask_csnSync (m : BitVec 4) (s : State) : (loadMask m s).csnSync = s.csnSync := rfl
@[simp] theorem loadMask_dqOeSync (m : BitVec 4) (s : State) : (loadMask m s).dqOeSync = s.dqOeSync := rfl
@[simp] theorem loadMask_rwdsOeSync (m : BitVec 4) (s : State) : (loadMask m s).rwdsOeSync = s.rwdsOeSync := rfl
@[simp] theorem loadMask_ctlPipe (m : BitVec 4) (s : State) : (loadMask m s).ctlPipe = s.ctlPipe := rfl
@[simp] theorem loadMask_txPipe (m : BitVec 4) (s : State) : (loadMask m s).txPipe = s.txPipe := rfl
@[simp] theorem loadMask_ckPipe (m : BitVec 4) (s : State) : (loadMask m s).ckPipe = s.ckPipe := rfl
@[simp] theorem loadMask_rxPipe (m : BitVec 4) (s : State) : (loadMask m s).rxPipe = s.rxPipe := rfl
@[simp] theorem loadMask_ioLines (m : BitVec 4) (s : State) : (loadMask m s).ioLines = s.ioLines := rfl
@[simp] theorem loadMask_clkLines (m : BitVec 4) (s : State) : (loadMask m s).clkLines = s.clkLines := rfl
@[simp] theorem loadMask_ioMove (m : BitVec 4) (s : State) : (loadMask m s).ioMove = s.ioMove := rfl
@[simp] theorem loadMask_clkMove (m : BitVec 4) (s : State) : (loadMask m s).clkMove = s.clkMove := rfl
@[simp] theorem loadMask_inp (m : BitVec 4) (s : State) : (loadMask m s).inp = s.inp := rfl
@[simp] theorem loadMask_stim (m : BitVec 4) (s : State) : (loadMask m s).stim = s.stim := rfl
@[simp] theorem loadMask_cycle (m : BitVec 4) (s : State) : (loadMask m s).cycle = s.cycle := rfl

@[simp] theorem raiseAbort_st (c : AbortCause) (s : State) : (raiseAbort c s).st = .clkOff := rfl
@[simp] theorem raiseAbort_cs (c : AbortCause) (s : State) : (raiseAbort c s).cs = s.cs := rfl
@[simp] theorem raiseAbort_clkEn (c : AbortCause) (s : State) : (raiseAbort c s).clkEn = s.clkEn := rfl
@[simp] theorem raiseAbort_dqOe (c : AbortCause) (s : State) : (raiseAbort c s).dqOe = s.dqOe := rfl
@[simp] theorem raiseAbort_rwdsOe (c : AbortCause) (s : State) : (raiseAbort c s).rwdsOe = s.rwdsOe := rfl
@[simp] theorem raiseAbort_srOut (c : AbortCause) (s : State) : (raiseAbort c s).srOut = s.srOut := rfl
@[simp] theorem raiseAbort_srIn (c : AbortCause) (s : State) : (raiseAbort c s).srIn = s.srIn := rfl
@[simp] theorem raiseAbort_srRwdsOut (c : AbortCause) (s : State) : (raiseAbort c s).srRwdsOut = s.srRwdsOut := rfl
@[simp] theorem raiseAbort_srRwdsIn (c : AbortCause) (s : State) : (raiseAbort c s).srRwdsIn = s.srRwdsIn := rfl
@[simp] theorem raiseAbort_tc (c : AbortCause) (s : State) : (raiseAbort c s).tc = s.tc := rfl
@[simp] theorem raiseAbort_csnSync (c : AbortCause) (s : State) : (raiseAbort c s).csnSync = s.csnSync := rfl
@[simp] theorem raiseAbort_dqOeSync (c : AbortCause) (s : State) : (raiseAbort c s).dqOeSync = s.dqOeSync := rfl
@[simp] theorem raiseAbort_rwdsOeSync (c : AbortCause) (s : State) : (raiseAbort c s).rwdsOeSync = s.rwdsOeSync := rfl
@[simp] theorem raiseAbort_ctlPipe (c : AbortCause) (s : State) : (raiseAbort c s).ctlPipe = s.ctlPipe := rfl
@[simp] theorem raiseAbort_txPipe (c : AbortCause) (s : State) : (raiseAbort c s).txPipe = s.txPipe := rfl
@[simp] theorem raiseAbort_ckPipe (c : AbortCause) (s : State) : (raiseAbort c s).ckPipe = s.ckPipe := rfl
@[simp] theorem raiseAbort_rxPipe (c : AbortCause) (s : State) : (raiseAbort c s).rxPipe = s.rxPipe := rfl
@[simp] theorem raiseAbort_ioLines (c : AbortCause) (s : State) : (raiseAbort c s).ioLines = s.ioLines := rfl
@[simp] theorem raiseAbort_clkLines (c : AbortCause) (s : State) : (raiseAbort c s).clkLines = s.clkLines := rfl
@[simp] theorem raiseAbort_ioMove (c : AbortCause) (s : State) : (raiseAbort c s).ioMove = s.ioMove := rfl
@[simp] theorem raiseAbort_clkMove (c : AbortCause) (s : State) : (raiseAbort c s).clkMove = s.clkMove := rfl
@[simp] theorem raiseAbort_inp (c : AbortCause) (s : State) : (raiseAbort c s).inp = s.inp := rfl
@[simp] theorem raiseAbort_stim (c : AbortCause) (s : State) : (raiseAbort c s).stim = s.stim := rfl
@[simp] theorem raiseAbort_cycle (c : AbortCause) (s : State) : (raiseAbort c s).cycle = s.cycle := rfl

@[simp] theorem presentWrite_st (a : Addr) (d : BitVec 32) (m : BitVec 4) (c : BitVec 3) (s : State) : (presentWrite a d m c s).st = s.st := rfl
@[simp] theorem presentWrite_cs (a : Addr) (d : BitVec 32) (m : BitVec 4) (c : BitVec 3) (s : State) : (presentWrite a d m c s).cs = s.cs := rfl
@[simp] theorem presentWrite_clkEn (a : Addr) (d : BitVec 32) (m : BitVec 4) (c : BitVec 3) (s : State) : (presentWrite a d m c s).clkEn = s.clkEn := rfl
@[simp] theorem presentWrite_dqOe (a : Addr) (d : BitVec 32) (m : BitVec 4) (c : BitVec 3) (s : State) : (presentWrite a d m c s).dqOe = s.dqOe := rfl
@[simp] theorem presentWrite_rwdsOe (a : Addr) (d : BitVec 32) (m : BitVec 4) (c : BitVec 3) (s : State) : (presentWrite a d m c s).rwdsOe = s.rwdsOe := rfl
@[simp] theorem presentWrite_srOut (a : Addr) (d : BitVec 32) (m : BitVec 4) (c : BitVec 3) (s : State) : (presentWrite a d m c s).srOut = s.srOut := rfl
@[simp] theorem presentWrite_srIn (a : Addr) (d : BitVec 32) (m : BitVec 4) (c : BitVec 3) (s : State) : (presentWrite a d m c s).srIn = s.srIn := rfl
@[simp] theorem presentWrite_srRwdsOut (a : Addr) (d : BitVec 32) (m : BitVec 4) (c : BitVec 3) (s : State) : (presentWrite a d m c s).srRwdsOut = s.srRwdsOut := rfl
@[simp] theorem presentWrite_srRwdsIn (a : Addr) (d : BitVec 32) (m : BitVec 4) (c : BitVec 3) (s : State) : (presentWrite a d m c s).srRwdsIn = s.srRwdsIn := rfl
@[simp] theorem presentWrite_tc (a : Addr) (d : BitVec 32) (m : BitVec 4) (c : BitVec 3) (s : State) : (presentWrite a d m c s).tc = s.tc := rfl
@[simp] theorem presentWrite_csnSync (a : Addr) (d : BitVec 32) (m : BitVec 4) (c : BitVec 3) (s : State) : (presentWrite a d m c s).csnSync = s.csnSync := rfl
@[simp] theorem presentWrite_dqOeSync (a : Addr) (d : BitVec 32) (m : BitVec 4) (c : BitVec 3) (s : State) : (presentWrite a d m c s).dqOeSync = s.dqOeSync := rfl
@[simp] theorem presentWrite_rwdsOeSync (a : Addr) (d : BitVec 32) (m : BitVec 4) (c : BitVec 3) (s : State) : (presentWrite a d m c s).rwdsOeSync = s.rwdsOeSync := rfl
@[simp] theorem presentWrite_ctlPipe (a : Addr) (d : BitVec 32) (m : BitVec 4) (c : BitVec 3) (s : State) : (presentWrite a d m c s).ctlPipe = s.ctlPipe := rfl
@[simp] theorem presentWrite_txPipe (a : Addr) (d : BitVec 32) (m : BitVec 4) (c : BitVec 3) (s : State) : (presentWrite a d m c s).txPipe = s.txPipe := rfl
@[simp] theorem presentWrite_ckPipe (a : Addr) (d : BitVec 32) (m : BitVec 4) (c : BitVec 3) (s : State) : (presentWrite a d m c s).ckPipe = s.ckPipe := rfl
@[simp] theorem presentWrite_rxPipe (a : Addr) (d : BitVec 32) (m : BitVec 4) (c : BitVec 3) (s : State) : (presentWrite a d m c s).rxPipe = s.rxPipe := rfl
@[simp] theorem presentWrite_ioLines (a : Addr) (d : BitVec 32) (m : BitVec 4) (c : BitVec 3) (s : State) : (presentWrite a d m c s).ioLines = s.ioLines := rfl
@[simp] theorem presentWrite_clkLines (a : Addr) (d : BitVec 32) (m : BitVec 4) (c : BitVec 3) (s : State) : (presentWrite a d m c s).clkLines = s.clkLines := rfl
@[simp] theorem presentWrite_ioMove (a : Addr) (d : BitVec 32) (m : BitVec 4) (c : BitVec 3) (s : State) : (presentWrite a d m c s).ioMove = s.ioMove := rfl
@[simp] theorem presentWrite_clkMove (a : Addr) (d : BitVec 32) (m : BitVec 4) (c : BitVec 3) (s : State) : (presentWrite a d m c s).clkMove = s.clkMove := rfl
@[simp] theorem presentWrite_inp (a : Addr) (d : BitVec 32) (m : BitVec 4) (c : BitVec 3) (s : State) :
    (presentWrite a d m c s).inp = { s.inp with cyc := true, stb := true, we := true, adr := a, datW := d, sel := m, cti := c } := rfl
@[simp] theorem presentWrite_stim (a : Addr) (d : BitVec 32) (m : BitVec 4) (c : BitVec 3) (s : State) : (presentWrite a d m c s).stim = s.stim := rfl
@[simp] theorem presentWrite_cycle (a : Addr) (d : BitVec 32) (m : BitVec 4) (c : BitVec 3) (s : State) : (presentWrite a d m c s).cycle = s.cycle := rfl

@[simp] theorem presentRead_st (a : Addr) (c : BitVec 3) (s : State) : (presentRead a c s).st = s.st := rfl
@[simp] theorem presentRead_cs (a : Addr) (c : BitVec 3) (s : State) : (presentRead a c s).cs = s.cs := rfl
@[simp] theorem presentRead_clkEn (a : Addr) (c : BitVec 3) (s : State) : (presentRead a c s).clkEn = s.clkEn := rfl
@[simp] theorem presentRead_dqOe (a : Addr) (c : BitVec 3) (s : State) : (presentRead a c s).dqOe = s.dqOe := rfl
@[simp] theorem presentRead_rwdsOe (a : Addr) (c : BitVec 3) (s : State) : (presentRead a c s).rwdsOe = s.rwdsOe := rfl
@[simp] theorem presentRead_srOut (a : Addr) (c : BitVec 3) (s : State) : (presentRead a c s).srOut = s.srOut := rfl
@[simp] theorem presentRead_srIn (a : Addr) (c : BitVec 3) (s : State) : (presentRead a c s).srIn = s.srIn := rfl
@[simp] theorem presentRead_srRwdsOut (a : Addr) (c : BitVec 3) (s : State) : (presentRead a c s).srRwdsOut = s.srRwdsOut := rfl
@[simp] theorem presentRead_srRwdsIn (a : Addr) (c : BitVec 3) (s : State) : (presentRead a c s).srRwdsIn = s.srRwdsIn := rfl
@[simp] theorem presentRead_tc (a : Addr) (c : BitVec 3) (s : State) : (presentRead a c s).tc = s.tc := rfl
@[simp] theorem presentRead_csnSync (a : Addr) (c : BitVec 3) (s : State) : (presentRead a c s).csnSync = s.csnSync := rfl
@[simp] theorem presentRead_dqOeSync (a : Addr) (c : BitVec 3) (s : State) : (presentRead a c s).dqOeSync = s.dqOeSync := rfl
@[simp] theorem presentRead_rwdsOeSync (a : Addr) (c : BitVec 3) (s : State) : (presentRead a c s).rwdsOeSync = s.rwdsOeSync := rfl
@[simp] theorem presentRead_ctlPipe (a : Addr) (c : BitVec 3) (s : State) : (presentRead a c s).ctlPipe = s.ctlPipe := rfl
@[simp] theorem presentRead_txPipe (a : Addr) (c : BitVec 3) (s : State) : (presentRead a c s).txPipe = s.txPipe := rfl
@[simp] theorem presentRead_ckPipe (a : Addr) (c : BitVec 3) (s : State) : (presentRead a c s).ckPipe = s.ckPipe := rfl
@[simp] theorem presentRead_rxPipe (a : Addr) (c : BitVec 3) (s : State) : (presentRead a c s).rxPipe = s.rxPipe := rfl
@[simp] theorem presentRead_ioLines (a : Addr) (c : BitVec 3) (s : State) : (presentRead a c s).ioLines = s.ioLines := rfl
@[simp] theorem presentRead_clkLines (a : Addr) (c : BitVec 3) (s : State) : (presentRead a c s).clkLines = s.clkLines := rfl
@[simp] theorem presentRead_ioMove (a : Addr) (c : BitVec 3) (s : State) : (presentRead a c s).ioMove = s.ioMove := rfl
@[simp] theorem presentRead_clkMove (a : Addr) (c : BitVec 3) (s : State) : (presentRead a c s).clkMove = s.clkMove := rfl
@[simp] theorem presentRead_inp (a : Addr) (c : BitVec 3) (s : State) :
    (presentRead a c s).inp = { s.inp with cyc := true, stb := true, we := false, adr := a, cti := c } := rfl
@[simp] theorem presentRead_stim (a : Addr) (c : BitVec 3) (s : State) : (presentRead a c s).stim = s.stim := rfl
@[simp] theorem presentRead_cycle (a : Addr) (c : BitVec 3) (s : State) : (presentRead a c s).cycle = s.cycle := rfl

@[simp] theorem resetRegisters_st (s : State) : (resetRegisters s).st = .idle := rfl
@[simp] theorem resetRegisters_cs (s : State) : (resetRegisters s).cs = false := rfl
@[simp] theorem resetRegisters_clkEn (s : State) : (resetRegisters s).clkEn = false := rfl
@[simp] theorem resetRegisters_dqOe (s : State) : (resetRegisters s).dqOe = false := rfl
@[simp] theorem resetRegisters_rwdsOe (s : State) : (resetRegisters s).rwdsOe = false := rfl
@[simp] theorem resetRegisters_srOut (s : State) : (resetRegisters s).srOut = 0#64 := rfl
@[simp] theorem resetRegisters_srIn (s : State) : (resetRegisters s).srIn = 0#64 := rfl
@[simp] theorem resetRegisters_srRwdsOut (s : State) : (resetRegisters s).srRwdsOut = 0#8 := rfl
@[simp] theorem resetRegisters_srRwdsIn (s : State) : (resetRegisters s).srRwdsIn = 0#8 := rfl
@[simp] theorem resetRegisters_tc (s : State) : (resetRegisters s).tc = 0#6 := rfl
@[simp] theorem resetRegisters_csnSync (s : State) : (resetRegisters s).csnSync = 0b111#3 := rfl
@[simp] theorem resetRegisters_dqOeSync (s : State) : (resetRegisters s).dqOeSync = 0b000#3 := rfl
@[simp] theorem resetRegisters_rwdsOeSync (s : State) : (resetRegisters s).rwdsOeSync = 0b000#3 := rfl
@[simp] theorem resetRegisters_ctlPipe (s : State) :
    (resetRegisters s).ctlPipe = s.ctlPipe.map fun _ => ⟨true, false, false⟩ := rfl
@[simp] theorem resetRegisters_txPipe (s : State) : (resetRegisters s).txPipe = s.txPipe.map fun _ => ⟨0#8, false⟩ := rfl
@[simp] theorem resetRegisters_ckPipe (s : State) : (resetRegisters s).ckPipe = s.ckPipe.map fun _ => false := rfl
@[simp] theorem resetRegisters_rxPipe (s : State) : (resetRegisters s).rxPipe = s.rxPipe.map fun _ => ⟨0#8, false⟩ := rfl
@[simp] theorem resetRegisters_ioLines (s : State) : (resetRegisters s).ioLines = s.ioLines := rfl
@[simp] theorem resetRegisters_clkLines (s : State) : (resetRegisters s).clkLines = s.clkLines := rfl
@[simp] theorem resetRegisters_ioMove (s : State) : (resetRegisters s).ioMove = s.ioMove := rfl
@[simp] theorem resetRegisters_clkMove (s : State) : (resetRegisters s).clkMove = s.clkMove := rfl
@[simp] theorem resetRegisters_inp (s : State) : (resetRegisters s).inp = s.inp := rfl
@[simp] theorem resetRegisters_stim (s : State) : (resetRegisters s).stim = s.stim := rfl
@[simp] theorem resetRegisters_cycle (s : State) : (resetRegisters s).cycle = s.cycle := rfl

@[simp] theorem advancePhy_st (s p : State) : (advancePhy s p).st = p.st := rfl
@[simp] theorem advancePhy_cs (s p : State) : (advancePhy s p).cs = p.cs := rfl
@[simp] theorem advancePhy_clkEn (s p : State) : (advancePhy s p).clkEn = p.clkEn := rfl
@[simp] theorem advancePhy_dqOe (s p : State) : (advancePhy s p).dqOe = p.dqOe := rfl
@[simp] theorem advancePhy_rwdsOe (s p : State) : (advancePhy s p).rwdsOe = p.rwdsOe := rfl
@[simp] theorem advancePhy_srOut (s p : State) : (advancePhy s p).srOut = p.srOut := rfl
@[simp] theorem advancePhy_srIn (s p : State) : (advancePhy s p).srIn = p.srIn := rfl
@[simp] theorem advancePhy_srRwdsOut (s p : State) : (advancePhy s p).srRwdsOut = p.srRwdsOut := rfl
@[simp] theorem advancePhy_srRwdsIn (s p : State) : (advancePhy s p).srRwdsIn = p.srRwdsIn := rfl
@[simp] theorem advancePhy_tc (s p : State) : (advancePhy s p).tc = p.tc := rfl
@[simp] theorem advancePhy_csnSync (s p : State) :
    (advancePhy s p).csnSync = syncCycle Config.syncClock s.csnSync (csn s) := rfl
@[simp] theorem advancePhy_dqOeSync (s p : State) :
    (advancePhy s p).dqOeSync = syncCycle Config.syncClock s.dqOeSync s.dqOe := rfl
@[simp] theorem advancePhy_rwdsOeSync (s p : State) :
    (advancePhy s p).rwdsOeSync = syncCycle Config.syncClock s.rwdsOeSync s.rwdsOe := rfl
@[simp] theorem advancePhy_ctlPipe (s p : State) : (advancePhy s p).ctlPipe = (passFour s.ctlPipe (ctlSamples s)).2 := rfl
@[simp] theorem advancePhy_txPipe (s p : State) : (advancePhy s p).txPipe = (passFour s.txPipe (txSamples s)).2 := rfl
@[simp] theorem advancePhy_ckPipe (s p : State) : (advancePhy s p).ckPipe = (passFour s.ckPipe (ckSamples s)).2 := rfl
@[simp] theorem advancePhy_rxPipe (s p : State) : (advancePhy s p).rxPipe = (passFour s.rxPipe s.inp.rx).2 := rfl
@[simp] theorem advancePhy_ioLines (s p : State) : (advancePhy s p).ioLines = p.ioLines := rfl
@[simp] theorem advancePhy_clkLines (s p : State) : (advancePhy s p).clkLines = p.clkLines := rfl
@[simp] theorem advancePhy_ioMove (s p : State) : (advancePhy s p).ioMove = p.ioMove := rfl
@[simp] theorem advancePhy_clkMove (s p : State) : (advancePhy s p).clkMove = p.clkMove := rfl
@[simp] theorem advancePhy_inp (s p : State) : (advancePhy s p).inp = p.inp := rfl
@[simp] theorem advancePhy_stim (s p : State) : (advancePhy s p).stim = p.stim := rfl
@[simp] theorem advancePhy_cycle (s p : State) : (advancePhy s p).cycle = p.cycle := rfl

@[simp] theorem moveLines_st (g : DlyGroup) (f : Nat → Nat) (m : Bool) (s : State) : (moveLines g f m s).st = s.st := by
  cases g <;> rfl
@[simp] theorem moveLines_cs (g : DlyGroup) (f : Nat → Nat) (m : Bool) (s : State) : (moveLines g f m s).cs = s.cs := by
  cases g <;> rfl
@[simp] theorem moveLines_clkEn (g : DlyGroup) (f : Nat → Nat) (m : Bool) (s : State) : (moveLines g f m s).clkEn = s.clkEn := by
  cases g <;> rfl
@[simp] theorem moveLines_dqOe (g : DlyGroup) (f : Nat → Nat) (m : Bool) (s : State) : (moveLines g f m s).dqOe = s.dqOe := by
  cases g <;> rfl
@[simp] theorem moveLines_rwdsOe (g : DlyGroup) (f : Nat → Nat) (m : Bool) (s : State) : (moveLines g f m s).rwdsOe = s.rwdsOe := by
  cases g <;> rfl
@[simp] theorem moveLines_srOut (g : DlyGroup) (f : Nat → Nat) (m : Bool) (s : State) : (moveLines g f m s).srOut = s.srOut := by
  cases g <;> rfl
@[simp] theorem moveLines_srIn (g : DlyGroup) (f : Nat → Nat) (m : Bool) (s : State) : (moveLines g f m s).srIn = s.srIn := by
  cases g <;> rfl
@[simp] theorem moveLines_srRwdsOut (g : DlyGroup) (f : Nat → Nat) (m : Bool) (s : State) : (moveLines g f m s).srRwdsOut = s.srRwdsOut := by
  cases g <;> rfl
@[simp] theorem moveLines_srRwdsIn (g : DlyGroup) (f : Nat → Nat) (m : Bool) (s : State) : (moveLines g f m s).srRwdsIn = s.srRwdsIn := by
  cases g <;> rfl
@[simp] theorem moveLines_tc (g : DlyGroup) (f : Nat → Nat) (m : Bool) (s : State) : (moveLines g f m s).tc = s.tc := by
  cases g <;> rfl
@[simp] theorem moveLines_csnSync (g : DlyGroup) (f : Nat → Nat) (m : Bool) (s : State) : (moveLines g f m s).csnSync = s.csnSync := by
  cases g <;> rfl
@[simp] theorem moveLines_dqOeSync (g : DlyGroup) (f : Nat → Nat) (m : Bool) (s : State) : (moveLines g f m s).dqOeSync = s.dqOeSync := by
  cases g <;> rfl
@[simp] theorem moveLines_rwdsOeSync (g : DlyGroup) (f : Nat → Nat) (m : Bool) (s : State) : (moveLines g f m s).rwdsOeSync = s.rwdsOeSync := by
  cases g <;> rfl
@[simp] theorem moveLines_ctlPipe (g : DlyGroup) (f : Nat → Nat) (m : Bool) (s : State) : (moveLines g f m s).ctlPipe = s.ctlPipe := by
  cases g <;> rfl
@[simp] theorem moveLines_txPipe (g : DlyGroup) (f : Nat → Nat) (m : Bool) (s : State) : (moveLines g f m s).txPipe = s.txPipe := by
  cases g <;> rfl
@[simp] theorem moveLines_ckPipe (g : DlyGroup) (f : Nat → Nat) (m : Bool) (s : State) : (moveLines g f m s).ckPipe = s.ckPipe := by
  cases g <;> rfl
@[simp] theorem moveLines_rxPipe (g : DlyGroup) (f : Nat → Nat) (m : Bool) (s : State) : (moveLines g f m s).rxPipe = s.rxPipe := by
  cases g <;> rfl
@[simp] theorem moveLines_inp (g : DlyGroup) (f : Nat → Nat) (m : Bool) (s : State) : (moveLines g f m s).inp = s.inp := by
  cases g <;> rfl
@[simp] theorem moveLines_stim (g : DlyGroup) (f : Nat → Nat) (m : Bool) (s : State) : (moveLines g f m s).stim = s.stim := by
  cases g <;> rfl
@[simp] theorem moveLines_cycle (g : DlyGroup) (f : Nat → Nat) (m : Bool) (s : State) : (moveLines g f m s).cycle = s.cycle := by
  cases g <;> rfl
@[simp] theorem moveLines_io_ioLines (f : Nat → Nat) (m : Bool) (s : State) : (moveLines .io f m s).ioLines = s.ioLines.all f := rfl
@[simp] theorem moveLines_clk_ioLines (f : Nat → Nat) (m : Bool) (s : State) : (moveLines .clk f m s).ioLines = s.ioLines := rfl
@[simp] theorem moveLines_io_clkLines (f : Nat → Nat) (m : Bool) (s : State) : (moveLines .io f m s).clkLines = s.clkLines := rfl
@[simp] theorem moveLines_clk_clkLines (f : Nat → Nat) (m : Bool) (s : State) : (moveLines .clk f m s).clkLines = s.clkLines.all f := rfl
@[simp] theorem moveLines_io_ioMove (f : Nat → Nat) (m : Bool) (s : State) : (moveLines .io f m s).ioMove = m := rfl
@[simp] theorem moveLines_clk_ioMove (f : Nat → Nat) (m : Bool) (s : State) : (moveLines .clk f m s).ioMove = s.ioMove := rfl
@[simp] theorem moveLines_io_clkMove (f : Nat → Nat) (m : Bool) (s : State) : (moveLines .io f m s).clkMove = s.clkMove := rfl
@[simp] theorem moveLines_clk_clkMove (f : Nat → Nat) (m : Bool) (s : State) : (moveLines .clk f m s).clkMove = m := rfl

@[simp] theorem finishCycle_inp (s p : State) : (finishCycle s p).inp = nextInputs s := rfl
@[simp] theorem finishCycle_stim (s p : State) : (finishCycle s p).stim = s.stim.tail := rfl
@[simp] theorem finishCycle_cycle (s p : State) : (finishCycle s p).cycle = s.cycle + 1 := rfl

theorem finishCycle_st (s p : State) :
    (finishCycle s p).st = if s.inp.rst then (resetRegisters (advancePhy s p)).st else (advancePhy s p).st := by
  unfold finishCycle; cases s.inp.rst <;> rfl
theorem finishCycle_cs (s p : State) :
    (finishCycle s p).cs = if s.inp.rst then (resetRegisters (advancePhy s p)).cs else (advancePhy s p).cs := by
  unfold finishCycle; cases s.inp.rst <;> rfl
theorem finishCycle_clkEn (s p : State) :
    (finishCycle s p).clkEn = if s.inp.rst then (resetRegisters (advancePhy s p)).clkEn else (advancePhy s p).clkEn := by
  unfold finishCycle; cases s.inp.rst <;> rfl
theorem finishCycle_dqOe (s p : State) :
    (finishCycle s p).dqOe = if s.inp.rst then (resetRegisters (advancePhy s p)).dqOe else (advancePhy s p).dqOe := by
  unfold finishCycle; cases s.inp.rst <;> rfl
theorem finishCycle_rwdsOe (s p : State) :
    (finishCycle s p).rwdsOe = if s.inp.rst then (resetRegisters (advancePhy s p)).rwdsOe else (advancePhy s p).rwdsOe := by
  unfold finishCycle; cases s.inp.rst <;> rfl
theorem finishCycle_srOut (s p : State) :
    (finishCycle s p).srOut = if s.inp.rst then (resetRegisters (advancePhy s p)).srOut else (advancePhy s p).srOut := by
  unfold finishCycle; cases s.inp.rst <;> rfl
theorem finishCycle_srIn (s p : State) :
    (finishCycle s p).srIn = if s.inp.rst then (resetRegisters (advancePhy s p)).srIn else (advancePhy s p).srIn := by
  unfold finishCycle; cases s.inp.rst <;> rfl
theorem finishCycle_srRwdsOut (s p : State) :
    (finishCycle s p).srRwdsOut = if s.inp.rst then (resetRegisters (advancePhy s p)).srRwdsOut else (advancePhy s p).srRwdsOut := by
  unfold finishCycle; cases s.inp.rst <;> rfl
theorem finishCycle_srRwdsIn (s p : State) :
    (finishCycle s p).srRwdsIn = if s.inp.rst then (resetRegisters (advancePhy s p)).srRwdsIn else (advancePhy s p).srRwdsIn := by
  unfold finishCycle; cases s.inp.rst <;> rfl
theorem finishCycle_tc (s p : State) :
    (finishCycle s p).tc = if s.inp.rst then (resetRegisters (advancePhy s p)).tc else (advancePhy s p).tc := by
  unfold finishCycle; cases s.inp.rst <;> rfl
theorem finishCycle_csnSync (s p : State) :
    (finishCycle s p).csnSync = if s.inp.rst then (resetRegisters (advancePhy s p)).csnSync else (advancePhy s p).csnSync := by
  unfold finishCycle; cases s.inp.rst <;> rfl
theorem finishCycle_dqOeSync (s p : State) :
    (finishCycle s p).dqOeSync = if s.inp.rst then (resetRegisters (advancePhy s p)).dqOeSync else (advancePhy s p).dqOeSync := by
  unfold finishCycle; cases s.inp.rst <;> rfl
theorem finishCycle_rwdsOeSync (s p : State) :
    (finishCycle s p).rwdsOeSync = if s.inp.rst then (resetRegisters (advancePhy s p)).rwdsOeSync else (advancePhy s p).rwdsOeSync := by
  unfold finishCycle; cases s.inp.rst <;> rfl
theorem finishCycle_ctlPipe (s p : State) :
    (finishCycle s p).ctlPipe = if s.inp.rst then (resetRegisters (advancePhy s p)).ctlPipe else (advancePhy s p).ctlPipe := by
  unfold finishCycle; cases s.inp.rst <;> rfl
theorem finishCycle_txPipe (s p : State) :
    (finishCycle s p).txPipe = if s.inp.rst then (resetRegisters (advancePhy s p)).txPipe else (advancePhy s p).txPipe := by
  unfold finishCycle; cases s.inp.rst <;> rfl
theorem finishCycle_ckPipe (s p : State) :
    (finishCycle s p).ckPipe = if s.inp.rst then (resetRegisters (advancePhy s p)).ckPipe else (advancePhy s p).ckPipe := by
  unfold finishCycle; cases s.inp.rst <;> rfl
theorem finishCycle_rxPipe (s p : State) :
    (finishCycle s p).rxPipe = if s.inp.rst then (resetRegisters (advancePhy s p)).rxPipe else (advancePhy s p).rxPipe := by
  unfold finishCycle; cases s.inp.rst <;> rfl
theorem finishCycle_ioLines (s p : State) :
    (finishCycle s p).ioLines = if s.inp.rst then (resetRegisters (advancePhy s p)).ioLines else (advancePhy s p).ioLines := by
  unfold finishCycle; cases s.inp.rst <;> rfl
theorem finishCycle_clkLines (s p : State) :
    (finishCycle s p).clkLines = if s.inp.rst then (resetRegisters (advancePhy s p)).clkLines else (advancePhy s p).clkLines := by
  unfold finishCycle; cases s.inp.rst <;> rfl
theorem finishCycle_ioMove (s p : State) :
    (finishCycle s p).ioMove = if s.inp.rst then (resetRegisters (advancePhy s p)).ioMove else (advancePhy s p).ioMove := by
  unfold finishCycle; cases s.inp.rst <;> rfl
theorem finishCycle_clkMove (s p : State) :
    (finishCycle s p).clkMove = if s.inp.rst then (resetRegisters (advancePhy s p)).clkMove else (advancePhy s p).clkMove := by
  unfold finishCycle; cases s.inp.rst <;> rfl

end Sys2Proof.Machine
end

