-- ==== Sys2Proof/Laws/Ops.lean ====
section
/-! SUPPORT. One lemma for each shared operation, saying what it can do. -/

namespace Sys2Proof.Machine

open Host

/-- One meaning after another answers a next state exactly if both do. -/
theorem andThen_eq_next {o : Outcome State Fault Refusal} {f : State → Outcome State Fault Refusal} {t : State} :
    andThen o f = .next t ↔ ∃ s, o = .next s ∧ f s = .next t := by
  cases o <;> simp [andThen]

@[simp] theorem andThen_next (s : State) (f : State → Outcome State Fault Refusal) : andThen (.next s) f = f s := rfl

/-- A bit-time through a delay loses nothing and keeps the order. -/
theorem passOne_append {α : Type} (q : List α) (x : α) : (passOne q x).1 :: (passOne q x).2 = q ++ [x] := by
  cases q <;> rfl

theorem passOne_length {α : Type} (q : List α) (x : α) : (passOne q x).2.length = q.length := by
  cases q <;> simp [passOne]

/-- The four bit-times of a cycle through a delay: what comes out and what stays is what was in and what went in. -/
theorem passFour_append {α : Type} (q : List α) (x : Quad α) :
    (passFour q x).1.toList ++ (passFour q x).2 = q ++ x.toList := by
  rcases q with _ | ⟨a, _ | ⟨b, _ | ⟨c, _ | ⟨d, r⟩⟩⟩⟩ <;> simp [passFour, passOne, Quad.toList]

@[simp] theorem passFour_length {α : Type} (q : List α) (x : Quad α) : (passFour q x).2.length = q.length := by
  simp [passFour, passOne_length]

/-- With no delay, a cycle's samples pass. -/
@[simp] theorem passFour_nil {α : Type} (x : Quad α) : passFour [] x = (x, []) := rfl

theorem abortCause_eq_none {s : State} : abortCause s = none ↔ s.inp.cyc = true ∧ timedOut s = false := by
  unfold abortCause
  cases s.inp.cyc <;> cases timedOut s <;> simp

/-- READ-ACK's cycle is the strobe's actions, with the successor overridden by an abort. -/
theorem readAckCycle_cases (s : State) :
    (abortCause s = none ∧ readAckCycle s = strobeCycle s) ∨
    (∃ c, abortCause s = some c ∧ readAckCycle s = { strobeCycle s with st := .clkOff }) := by
  unfold readAckCycle
  cases h : abortCause s with
  | none => exact .inl ⟨rfl, rfl⟩
  | some c => exact .inr ⟨c, rfl, rfl⟩

theorem dlyTaps_pos : 0 < Config.dlyTaps := Nat.succ_pos _

theorem loadPosition_lt (g : DlyGroup) : loadPosition g < Config.dlyTaps := Nat.mod_lt _ dlyTaps_pos

theorem beyondEnd_lt (g : DlyGroup) (n : Nat) : beyondEnd g n < Config.dlyTaps := Nat.mod_lt _ dlyTaps_pos

theorem stepUp_lt (g : DlyGroup) (n p : Nat) : stepUp g n p < Config.dlyTaps := by
  unfold stepUp
  split
  · assumption
  · exact beyondEnd_lt g n

theorem stepDown_lt (g : DlyGroup) (n : Nat) {p : Nat} (h : p < Config.dlyTaps) : stepDown g n p < Config.dlyTaps := by
  unfold stepDown
  split
  · omega
  · exact beyondEnd_lt g n

/-- The word in the state register decodes to the micro-operation of the state. -/
theorem decode_stateWord (s : State) : decode .state (stateWord s) = .ok (stateInstr s.st) := by
  unfold stateWord
  cases s.st <;> rfl

/-- The word in a delay-control record decodes to its operation. -/
theorem decode_dlyWord (g : DlyGroup) (s : State) :
    decode .dlyCtl (dlyWord g s) =
      .ok (decodeDlyOp g (dlyRecord g s).loadn (dlyRecord g s).move (dlyRecord g s).direction (dlyMovePrev g s)) := by
  unfold dlyWord
  cases (dlyRecord g s).loadn <;> cases (dlyRecord g s).move <;> cases (dlyRecord g s).direction <;>
    cases dlyMovePrev g s <;> cases g <;> rfl

/-- The inputs of the next cycle are those of cycle 1 from now. -/
theorem nextInputs_eq (s : State) : nextInputs s = (s.stim[0]?).getD (Config.freeInputs (s.cycle + 1)) := by
  unfold nextInputs
  cases s.stim <;> rfl

end Sys2Proof.Machine
end

