-- ==== Sys2Proof/Laws/PerInstr.lean ====
section
/-! SUPPORT. Families of facts about instructions as syntax, one lemma per constructor of Instr. -/

namespace Sys2Proof.Laws.EncodeLength

/-- The bytes of an instruction are as many as its format has (30_encoding.md R80: fixed length). -/
def Statement (i : Instr) : Prop := (encode i).length = i.format.bytes

theorem wrIncr (a : Addr) (d : BitVec 32) (m : BitVec 4) : Statement (.wrIncr a d m) := rfl
theorem rdIncr (a : Addr) : Statement (.rdIncr a) := rfl
theorem wr (a : Addr) (d : BitVec 32) (m : BitVec 4) (c : BitVec 3) : Statement (.wr a d m c) := rfl
theorem rd (a : Addr) (c : BitVec 3) : Statement (.rd a c) := rfl
theorem idle : Statement .idle := rfl
theorem caSend : Statement .caSend := rfl
theorem caWait : Statement .caWait := rfl
theorem latencyWait : Statement .latencyWait := rfl
theorem latencyWait0 : Statement .latencyWait0 := rfl
theorem latencyWait1 : Statement .latencyWait1 := rfl
theorem latencyWait2 : Statement .latencyWait2 := rfl
theorem latencyWait3 : Statement .latencyWait3 := rfl
theorem readWrite : Statement .readWrite := rfl
theorem readAck : Statement .readAck := rfl
theorem clkOff : Statement .clkOff := rfl
theorem cleanup : Statement .cleanup := rfl
theorem holdWait : Statement .holdWait := rfl
theorem holdWait0 : Statement .holdWait0 := rfl
theorem holdWait1 : Statement .holdWait1 := rfl
theorem holdWait2 : Statement .holdWait2 := rfl
theorem holdWait3 : Statement .holdWait3 := rfl
theorem holdWait4 : Statement .holdWait4 := rfl
theorem holdWait5 : Statement .holdWait5 := rfl
theorem holdWait6 : Statement .holdWait6 := rfl
theorem holdWait7 : Statement .holdWait7 := rfl
theorem holdWait8 : Statement .holdWait8 := rfl
theorem holdWait9 : Statement .holdWait9 := rfl
theorem holdWait10 : Statement .holdWait10 := rfl
theorem holdWait11 : Statement .holdWait11 := rfl
theorem holdWait12 : Statement .holdWait12 := rfl
theorem holdWait13 : Statement .holdWait13 := rfl
theorem caRd (a : Addr) : Statement (.caRd a) := rfl
theorem caWr (a : Addr) : Statement (.caWr a) := rfl
theorem srloadCa (c : BitVec 48) : Statement (.srloadCa c) := rfl
theorem srloadWd (d : BitVec 32) : Statement (.srloadWd d) := rfl
theorem srloadWm (m : BitVec 4) : Statement (.srloadWm m) := rfl
theorem dlyLoad (g : DlyGroup) (m d p : Bool) : Statement (.dlyLoad g m d p) := rfl
theorem dlyUp (g : DlyGroup) : Statement (.dlyUp g) := rfl
theorem dlyDown (g : DlyGroup) : Statement (.dlyDown g) := rfl
theorem dlyHold (g : DlyGroup) (m d p : Bool) : Statement (.dlyHold g m d p) := rfl

end Sys2Proof.Laws.EncodeLength
end

