-- ==== Sys2Proof/Laws/Step.lean ====
section
/-! SUPPORT. What a step does, said once: the delay lines move, the sequencer runs the cycle of its state, the cycle ends. -/

namespace Sys2Proof.Machine

open Host

/-- What a record does to every line of its group in cycle `n`. -/
def lineMove (g : DlyGroup) (r : DlyRecord) (movePrev : Bool) (n : Nat) : Nat → Nat :=
  if r.loadn then
    if r.move && !movePrev then (if r.direction then stepDown g n else stepUp g n) else id
  else fun _ => loadPosition g

/-- The delay lines of a group after this cycle. -/
def dlyCycle (g : DlyGroup) (s : State) : State :=
  moveLines g (lineMove g (dlyRecord g s) (dlyMovePrev g s) s.cycle) (dlyRecord g s).move s

/-- The operation of a record, executed. -/
theorem exec_decodeDlyOp (g : DlyGroup) (r : DlyRecord) (movePrev : Bool) (s : State) :
    exec (decodeDlyOp g r.loadn r.move r.direction movePrev) s =
      .next (moveLines g (lineMove g r movePrev s.cycle) r.move s) := by
  obtain ⟨l, m, d⟩ := r
  cases l <;> cases m <;> cases d <;> cases movePrev <;> rfl

/-- The micro-operation of the current state, executed. -/
theorem exec_stateInstr (s : State) : exec (stateInstr s.st) s = .next (sequencerCycle s) := by
  unfold sequencerCycle
  cases s.st <;> rfl

/-- One step. -/
theorem step_eq (s : State) : step s = .next (finishCycle s (sequencerCycle (dlyCycle .clk (dlyCycle .io s)))) := by
  have hst : (dlyCycle .clk (dlyCycle .io s)).st = s.st := rfl
  unfold step
  rw [decode_dlyWord, decode_dlyWord, decode_stateWord]
  simp only [execCycle, exec_decodeDlyOp, andThen_next]
  rw [← hst]
  show andThen (exec (stateInstr _) (dlyCycle .clk (dlyCycle .io s))) _ = _
  rw [exec_stateInstr, andThen_next]

/-- A step that answers a next state answers this one. -/
theorem step_next {s t : State} (h : step s = .next t) :
    t = finishCycle s (sequencerCycle (dlyCycle .clk (dlyCycle .io s))) := by
  rw [step_eq] at h
  exact (Outcome.next.inj h).symm

end Sys2Proof.Machine
end

