-- ==== Sys2Proof/Machine/IdealHost.lean ====
section
/-! DEFINITION. The stimulus notation (30_encoding.md R78, R79) and the idealised host that runs it (95_test_vectors.md
section 0), as an agent OUTSIDE the machine: it gives the inputs of each cycle and sees the response. `step` does not depend
on anything here. -/

namespace Sys2Proof.Machine

/-- The four operations a `DLY` line names (R75). -/
inductive DlyOp where
  | load
  | up
  | down
  | hold
deriving DecidableEq, Repr

/-- A line of a program (R78) or a pseudo-line (R79). -/
inductive HostLine where
  /-- `WR adr, data, sel` -/
  | wr (adr : Addr) (data : BitVec 32) (sel : BitVec 4)
  /-- `RD adr` -/
  | rd (adr : Addr)
  /-- `RD adr, limit=n` -/
  | rdLimit (adr : Addr) (n : Nat)
  /-- `IDLE n` -/
  | idle (n : Nat)
  /-- `DLY grp, op`: one cycle -/
  | dly (g : DlyGroup) (op : DlyOp)
  /-- `WRB adr, [d0, ..., dK-1], sel` -/
  | wrb (adr : Addr) (data : List (BitVec 32)) (sel : BitVec 4)
  /-- `RDB adr, K` -/
  | rdb (adr : Addr) (k : Nat)
deriving DecidableEq, Repr

/-- `DEV c: rwds=v, dq=w`: what the PHY is given in cycle `c`. -/
structure DevLine where
  cycle : Nat
  rwds : BitVec 4
  dq : BitVec 32
deriving DecidableEq, Repr

/-- The idealised host: the lines still to run, and how far the first of them has come. -/
structure HostRun where
  lines : List HostLine
  spent : Nat
  acks : Nat
deriving DecidableEq, Repr

/-- The record a `DLY` line drives for one cycle (R75). DESIGN CHOICE (log entry 18): the bits R75 leaves open are driven 0,
`move` and `direction` of `LOAD` and of `HOLD`. So an `UP` or `DOWN` line after either of them, or after a cycle without a
`DLY` line, is an edge, and one right after an `UP` or `DOWN` line of its group is no step. -/
def DlyOp.record : DlyOp → DlyRecord
  | .load => ⟨false, false, false⟩
  | .up => ⟨true, true, false⟩
  | .down => ⟨true, true, true⟩
  | .hold => ⟨true, false, false⟩

/-- The signals of a request, on top of quiet inputs. -/
def requestInputs (we : Bool) (adr : Addr) (datW : BitVec 32) (sel : BitVec 4) (cti : BitVec 3) : Inputs :=
  { quietInputs with cyc := true, stb := true, we := we, adr := adr, datW := datW, sel := sel, cti := cti }

/-- The burst-type code of a beat of a pseudo-line of `k` beats when `acks` acknowledges have been seen (R79). -/
def beatCti (acks k : Nat) : BitVec 3 := if acks + 1 < k then ctiIncr else ctiEnd

/-- The inputs a line drives, without the lanes. DESIGN CHOICE (log entry 18): a read line drives `dat_w` and `sel` 0, where
R78 and R79 give them no value and 70_reset_and_hazards.md R247 lets a host leave them at any. -/
def HostLine.drive (l : HostLine) (acks : Nat) : Inputs :=
  match l with
  | .wr adr data sel => requestInputs true adr data sel ctiClassic
  | .rd adr => requestInputs false adr 0#32 0#4 ctiClassic
  | .rdLimit adr _ => requestInputs false adr 0#32 0#4 ctiClassic
  | .idle _ => quietInputs
  | .dly .io op => { quietInputs with dlyIo := op.record }
  | .dly .clk op => { quietInputs with dlyClk := op.record }
  | .wrb adr data sel => requestInputs true adr (data.getD acks 0#32) sel (beatCti acks data.length)
  | .rdb adr k => requestInputs false adr 0#32 0#4 (beatCti acks k)

/-- Whether a line has ended once `spent` cycles have passed in it and `acks` acknowledges were seen, the last cycle's
included. DESIGN CHOICE (log entry 18): an `RD adr, limit=n` line whose acknowledge comes before `n` cycles ends with it, as
R78 says (`as RD`); 95_test_vectors.md section 0 has it drive `n` cycles whether or not an acknowledge came. -/
def HostLine.ended (l : HostLine) (spent acks : Nat) : Bool :=
  match l with
  | .wr _ _ _ => decide (1 ≤ acks)
  | .rd _ => decide (1 ≤ acks)
  | .rdLimit _ n => decide (1 ≤ acks ∨ n ≤ spent)
  | .idle n => decide (n ≤ spent)
  | .dly _ _ => decide (1 ≤ spent)
  | .wrb _ data _ => decide (data.length ≤ acks)
  | .rdb _ k => decide (k ≤ acks)

/-- The lines from the first that lasts at least one cycle. -/
def skipEmptyLines : List HostLine → List HostLine
  | [] => []
  | l :: r => if l.ended 0 0 then skipEmptyLines r else l :: r

/-- The inputs of a cycle; while no line drives the bus they are quiet. -/
def HostRun.drive (h : HostRun) : Inputs :=
  match skipEmptyLines h.lines with
  | [] => quietInputs
  | l :: _ => l.drive h.acks

/-- The host after a cycle in which it saw `ack`. -/
def HostRun.advance (h : HostRun) (ack : Bool) : HostRun :=
  match skipEmptyLines h.lines with
  | [] => ⟨[], 0, 0⟩
  | l :: r =>
    if l.ended (h.spent + 1) (h.acks + ack.toNat) then ⟨r, 0, 0⟩ else ⟨l :: r, h.spent + 1, h.acks + ack.toNat⟩

/-- The lane samples the `DEV` lines give for a cycle: `dq_i` and `rwds_i` where the receive latency is 0; 0 in a cycle that
no line lists. -/
def devSamples (dev : List DevLine) (cycle : Nat) : Quad LaneSample :=
  match dev.find? (fun d => d.cycle == cycle) with
  | some d => laneSamples d.dq d.rwds
  | none => Quad.same ⟨0#8, false⟩

/-- A machine with an idealised host and `DEV` lines around it. -/
structure Bench where
  host : HostRun
  dev : List DevLine
  machine : State
deriving DecidableEq, Repr

/-- The machine in the current cycle, with the inputs the bench gives it. -/
def Bench.state (b : Bench) : State :=
  { b.machine with inp := { b.host.drive with rx := devSamples b.dev b.machine.cycle } }

/-- One cycle of the bench; `none` if the machine stops. -/
def Bench.step (b : Bench) : Option Bench :=
  match Machine.step b.state with
  | .next t => some { b with host := b.host.advance (ack b.state), machine := t }
  | .fault _ => none
  | .refused _ => none

/-- `k` cycles of the bench. -/
def Bench.run : Nat → Bench → Option Bench
  | 0, b => some b
  | k + 1, b => (b.step).bind (Bench.run k)

end Sys2Proof.Machine
end

