-- ==== Sys2Proof/Tests/Slice0.lean ====
section
/-! SUPPORT. Tests: the well-formedness smoke, a written-out word for every constructor, one step at a time against the
tables of 95_test_vectors.md, and for every statement with hypotheses a state and operands that meet them. -/

namespace Sys2Proof.Tests.Slice0

open Sys2Proof Sys2Proof.Machine Host

/-! ### Well-formedness refuses what it checks -/

theorem smoke_wr_refused : (Instr.wr 0#21 0#32 0#4 0b010#3).wellFormed = false := by decide
theorem smoke_rd_refused : (Instr.rd 0#21 0b010#3).wellFormed = false := by decide
theorem smoke_dlyHold_refused : (Instr.dlyHold .io true false false).wellFormed = false := by decide
theorem smoke_dlyHold_accepted : (Instr.dlyHold .io true false true).wellFormed = true := by decide

/-! ### Words written out from 30_encoding.md R61, R65 to R68, R75, R76 -/

theorem test_decode_idle : decode .state [0b00000000#8] = .ok .idle := by decide
theorem test_decode_caSend : decode .state [0b00000001#8] = .ok .caSend := by decide
theorem test_decode_caWait : decode .state [0b00000010#8] = .ok .caWait := by decide
theorem test_decode_latencyWait : decode .state [0b00000011#8] = .ok .latencyWait := by decide
theorem test_decode_latencyWait0 : decode .state [0b00000100#8] = .ok .latencyWait0 := by decide
theorem test_decode_latencyWait1 : decode .state [0b00000101#8] = .ok .latencyWait1 := by decide
theorem test_decode_latencyWait2 : decode .state [0b00000110#8] = .ok .latencyWait2 := by decide
theorem test_decode_latencyWait3 : decode .state [0b00000111#8] = .ok .latencyWait3 := by decide
theorem test_decode_readWrite : decode .state [0b00001000#8] = .ok .readWrite := by decide
theorem test_decode_readAck : decode .state [0b00001001#8] = .ok .readAck := by decide
theorem test_decode_clkOff : decode .state [0b00001010#8] = .ok .clkOff := by decide
theorem test_decode_cleanup : decode .state [0b00001011#8] = .ok .cleanup := by decide
theorem test_decode_holdWait : decode .state [0b00001100#8] = .ok .holdWait := by decide
theorem test_decode_holdWait0 : decode .state [0b00001101#8] = .ok .holdWait0 := by decide
theorem test_decode_holdWait1 : decode .state [0b00001110#8] = .ok .holdWait1 := by decide
theorem test_decode_holdWait2 : decode .state [0b00001111#8] = .ok .holdWait2 := by decide
theorem test_decode_holdWait3 : decode .state [0b00010000#8] = .ok .holdWait3 := by decide
theorem test_decode_holdWait4 : decode .state [0b00010001#8] = .ok .holdWait4 := by decide
theorem test_decode_holdWait5 : decode .state [0b00010010#8] = .ok .holdWait5 := by decide
theorem test_decode_holdWait6 : decode .state [0b00010011#8] = .ok .holdWait6 := by decide
theorem test_decode_holdWait7 : decode .state [0b00010100#8] = .ok .holdWait7 := by decide
theorem test_decode_holdWait8 : decode .state [0b00010101#8] = .ok .holdWait8 := by decide
theorem test_decode_holdWait9 : decode .state [0b00010110#8] = .ok .holdWait9 := by decide
theorem test_decode_holdWait10 : decode .state [0b00010111#8] = .ok .holdWait10 := by decide
theorem test_decode_holdWait11 : decode .state [0b00011000#8] = .ok .holdWait11 := by decide
theorem test_decode_holdWait12 : decode .state [0b00011001#8] = .ok .holdWait12 := by decide
theorem test_decode_holdWait13 : decode .state [0b00011010#8] = .ok .holdWait13 := by decide
theorem test_decode_no_state_27 : decode .state [0b00011011#8] = .error (.noSuchState 27) := by decide
theorem test_decode_no_state_31 : decode .state [0b00011111#8] = .error (.noSuchState 31) := by decide
theorem test_decode_wrIncr :
    decode .hostReq [0b00001010#8, 0x45#8, 0x23#8, 0x01#8, 0xEF#8, 0xBE#8, 0xAD#8, 0xDE#8, 0b00001100#8] =
      .ok (.wrIncr 0x012345#21 0xDEADBEEF#32 0b1100#4) := by decide
theorem test_decode_rdIncr :
    decode .hostReq [0b00000010#8, 0xFF#8, 0xFF#8, 0x1F#8, 0#8, 0#8, 0#8, 0#8, 0#8] = .ok (.rdIncr 0x1FFFFF#21) := by decide
theorem test_decode_wr :
    decode .hostReq [0b00001111#8, 0x01#8, 0x00#8, 0x00#8, 0x78#8, 0x56#8, 0x34#8, 0x12#8, 0b00000001#8] =
      .ok (.wr 0x000001#21 0x12345678#32 0b0001#4 0b111#3) := by decide
theorem test_decode_rd :
    decode .hostReq [0b00000000#8, 0x02#8, 0x00#8, 0x00#8, 0#8, 0#8, 0#8, 0#8, 0#8] = .ok (.rd 0x000002#21 0b000#3) := by decide
theorem test_decode_caRd :
    decode .ca48 [0x02#8, 0x00#8, 0x55#8, 0x55#8, 0x05#8, 0xA0#8] = .ok (.caRd 0x155555#21) := by decide
theorem test_decode_caWr :
    decode .ca48 [0x02#8, 0x00#8, 0xD1#8, 0x48#8, 0x00#8, 0x20#8] = .ok (.caWr 0x012345#21) := by decide
theorem test_decode_ca_register_space_refused :
    decode .ca48 [0x02#8, 0x00#8, 0xD1#8, 0x48#8, 0x00#8, 0x60#8] = .error (.fixedBit .ca48) := by decide
theorem test_decode_srloadCa :
    decode .srloadCa [0#8, 0#8, 0x04#8, 0x00#8, 0x00#8, 0x00#8, 0x00#8, 0xA0#8] = .ok (.srloadCa 0xA00000000004#48) := by
  decide
theorem test_decode_srloadWd :
    decode .srloadWd [0#8, 0#8, 0#8, 0#8, 0xEF#8, 0xBE#8, 0xAD#8, 0xDE#8] = .ok (.srloadWd 0xDEADBEEF#32) := by decide
theorem test_decode_srloadWm : decode .srloadWm [0b10100000#8] = .ok (.srloadWm 0b1010#4) := by decide
theorem test_decode_dlyLoad : decode .dlyCtl [0b00000110#8, 0#8] = .ok (.dlyLoad .io true true false) := by decide
theorem test_decode_dlyUp : decode .dlyCtl [0b00001100#8, 1#8] = .ok (.dlyUp .clk) := by decide
theorem test_decode_dlyDown : decode .dlyCtl [0b00001110#8, 0#8] = .ok (.dlyDown .io) := by decide
theorem test_decode_dlyHold : decode .dlyCtl [0b00001101#8, 0#8] = .ok (.dlyHold .io true false true) := by decide

/-! ### States for one step -/

/-- The reset state with the four delays of the serialization layer empty, so that it can be evaluated. -/
def calm : State := { State.reset with ctlPipe := [], txPipe := [], ckPipe := [], rxPipe := [] }

/-- The state and inputs of the table of 95_test_vectors.md section 2.7. -/
def probe (st : SeqState) (we cs clkEn dqOe rwdsOe : Bool) : State :=
  { calm with
    st := st, cs := cs, clkEn := clkEn, dqOe := dqOe, rwdsOe := rwdsOe, tc := 7#6
    srOut := 0x0123456789ABCDEF#64, srRwdsOut := 0xA5#8, srIn := 0x1111111122222222#64, srRwdsIn := 0x3C#8
    inp := { requestInputs we 0x000002#21 0xDEADBEEF#32 0b1100#4 0b000#3 with rx := laneSamples 0x33333333#32 0b0101#4 } }

/-- Part of what a step answers, as a row of the table: the state, `cs clk_en dq_oe rwds_oe`, `tc`, `sr_out`,
`sr_rwds_out`. -/
def row (o : Outcome State Fault Refusal) : Option (SeqState × List Bool × BitVec 6 × BitVec 64 × BitVec 8) :=
  match o with
  | .next t => some (t.st, [t.cs, t.clkEn, t.dqOe, t.rwdsOe], t.tc, t.srOut, t.srRwdsOut)
  | .fault _ => none
  | .refused _ => none

/-- The input registers after a step. -/
def captured (o : Outcome State Fault Refusal) : Option (BitVec 64 × BitVec 8) :=
  match o with
  | .next t => some (t.srIn, t.srRwdsIn)
  | .fault _ => none
  | .refused _ => none

/-! ### One step in every state (95_test_vectors.md section 2.7) -/

theorem test_step_idle :
    row (step (probe .idle true false false false false)) =
      some (.caSend, [true, false, false, false], 7#6, 0x89ABCDEF00000000#64, 0x50#8) := by decide
theorem test_step_caSend_write :
    row (step (probe .caSend true true false false false)) =
      some (.caWait, [true, true, true, false], 7#6, 0x2000000000040000#64, 0x50#8) := by decide
theorem test_step_caSend_read :
    row (step (probe .caSend false true false false false)) =
      some (.caWait, [true, true, true, false], 7#6, 0xA000000000040000#64, 0x50#8) := by decide
theorem test_step_caWait :
    row (step (probe .caWait true true true true false)) =
      some (.latencyWait, [true, true, true, false], 0#6, 0x89ABCDEF00000000#64, 0x50#8) := by decide
theorem test_step_latencyWait :
    row (step (probe .latencyWait true true true true false)) =
      some (.latencyWait0, [true, true, false, false], 7#6, 0x89ABCDEF00000000#64, 0x50#8) := by decide
theorem test_step_latencyWait0 :
    row (step (probe .latencyWait0 true true true false false)) =
      some (.latencyWait1, [true, true, false, false], 7#6, 0x89ABCDEF00000000#64, 0x50#8) := by decide
theorem test_step_latencyWait1 :
    row (step (probe .latencyWait1 true true true false false)) =
      some (.latencyWait2, [true, true, false, false], 7#6, 0x89ABCDEF00000000#64, 0x50#8) := by decide
theorem test_step_latencyWait2 :
    row (step (probe .latencyWait2 true true true false false)) =
      some (.latencyWait3, [true, true, false, false], 7#6, 0x89ABCDEF00000000#64, 0x50#8) := by decide
theorem test_step_latencyWait3_write :
    row (step (probe .latencyWait3 true true true false false)) =
      some (.readWrite, [true, true, true, true], 7#6, 0x89ABCDEF00000000#64, 0x50#8) := by decide
theorem test_step_latencyWait3_read :
    row (step (probe .latencyWait3 false true true false false)) =
      some (.readWrite, [true, true, false, false], 7#6, 0x89ABCDEF00000000#64, 0x50#8) := by decide
theorem test_step_readWrite_write :
    row (step (probe .readWrite true true true true true)) =
      some (.clkOff, [true, true, true, true], 7#6, 0xDEADBEEF00000000#64, 0x30#8) := by decide
theorem test_step_readWrite_read :
    row (step (probe .readWrite false true true false false)) =
      some (.readAck, [true, true, false, false], 7#6, 0x89ABCDEF00000000#64, 0x50#8) := by decide
theorem test_step_readAck :
    row (step (probe .readAck false true true false false)) =
      some (.readAck, [true, true, false, false], 8#6, 0x89ABCDEF00000000#64, 0x50#8) := by decide
theorem test_step_clkOff :
    row (step (probe .clkOff true true true true true)) =
      some (.cleanup, [true, false, true, true], 7#6, 0x89ABCDEF00000000#64, 0x50#8) := by decide
theorem test_step_cleanup :
    row (step (probe .cleanup true true false true true)) =
      some (.holdWait, [false, false, false, false], 7#6, 0x89ABCDEF00000000#64, 0x50#8) := by decide
theorem test_step_holdWait :
    row (step (probe .holdWait true false false false false)) =
      some (.holdWait0, [false, false, false, false], 7#6, 0x0000000000000000#64, 0x00#8) := by decide
theorem test_step_holdWait0 :
    row (step (probe .holdWait0 true false false false false)) =
      some (.holdWait1, [false, false, false, false], 7#6, 0x89ABCDEF00000000#64, 0x50#8) := by decide
theorem test_step_holdWait1 :
    row (step (probe .holdWait1 true false false false false)) =
      some (.holdWait2, [false, false, false, false], 7#6, 0x89ABCDEF00000000#64, 0x50#8) := by decide
theorem test_step_holdWait2 :
    row (step (probe .holdWait2 true false false false false)) =
      some (.holdWait3, [false, false, false, false], 7#6, 0x89ABCDEF00000000#64, 0x50#8) := by decide
theorem test_step_holdWait3 :
    row (step (probe .holdWait3 true false false false false)) =
      some (.holdWait4, [false, false, false, false], 7#6, 0x89ABCDEF00000000#64, 0x50#8) := by decide
theorem test_step_holdWait4 :
    row (step (probe .holdWait4 true false false false false)) =
      some (.holdWait5, [false, false, false, false], 7#6, 0x89ABCDEF00000000#64, 0x50#8) := by decide
theorem test_step_holdWait5 :
    row (step (probe .holdWait5 true false false false false)) =
      some (.holdWait6, [false, false, false, false], 7#6, 0x89ABCDEF00000000#64, 0x50#8) := by decide
theorem test_step_holdWait6 :
    row (step (probe .holdWait6 true false false false false)) =
      some (.holdWait7, [false, false, false, false], 7#6, 0x89ABCDEF00000000#64, 0x50#8) := by decide
theorem test_step_holdWait7 :
    row (step (probe .holdWait7 true false false false false)) =
      some (.holdWait8, [false, false, false, false], 7#6, 0x89ABCDEF00000000#64, 0x50#8) := by decide
theorem test_step_holdWait8 :
    row (step (probe .holdWait8 true false false false false)) =
      some (.holdWait9, [false, false, false, false], 7#6, 0x89ABCDEF00000000#64, 0x50#8) := by decide
theorem test_step_holdWait9 :
    row (step (probe .holdWait9 true false false false false)) =
      some (.holdWait10, [false, false, false, false], 7#6, 0x89ABCDEF00000000#64, 0x50#8) := by decide
theorem test_step_holdWait10 :
    row (step (probe .holdWait10 true false false false false)) =
      some (.holdWait11, [false, false, false, false], 7#6, 0x89ABCDEF00000000#64, 0x50#8) := by decide
theorem test_step_holdWait11 :
    row (step (probe .holdWait11 true false false false false)) =
      some (.holdWait12, [false, false, false, false], 7#6, 0x89ABCDEF00000000#64, 0x50#8) := by decide
theorem test_step_holdWait12 :
    row (step (probe .holdWait12 true false false false false)) =
      some (.holdWait13, [false, false, false, false], 7#6, 0x89ABCDEF00000000#64, 0x50#8) := by decide
theorem test_step_holdWait13 :
    row (step (probe .holdWait13 true false false false false)) =
      some (.idle, [false, false, false, false], 7#6, 0x89ABCDEF00000000#64, 0x50#8) := by decide
theorem test_step_captures :
    captured (step (probe .holdWait5 true false false false false)) = some (0x2222222233333333#64, 0xC5#8) := by decide
theorem test_idle_without_trigger :
    row (step { calm with inp := { quietInputs with cyc := true } }) =
      some (.idle, [false, false, false, false], 0#6, 0#64, 0#8) := by decide

/-! ### READ-ACK (95_test_vectors.md section 2.6), the requests, the loads, the delay operations -/

/-- A READ-ACK cycle with these inputs and this `tc`. -/
def waiting (vstb : Bool) (cti : BitVec 3) (cyc : Bool) (tc : BitVec 6) : State :=
  { calm with
    st := .readAck, cs := true, clkEn := true, tc := tc
    inp := { quietInputs with cyc := cyc, cti := cti, rx := laneSamples 0#32 (BitVec.ofBool vstb ++ 0#3) } }

theorem test_readAck_last_beat :
    row (step (waiting true 0b000#3 true 5#6)) = some (.cleanup, [true, false, false, false], 0#6, 0#64, 0#8) := by decide
theorem test_readAck_timeout :
    row (step (waiting false 0b010#3 true 21#6)) = some (.clkOff, [true, true, false, false], 22#6, 0#64, 0#8) := by decide
theorem test_ack_in_abort_cycle : ack (waiting true 0b000#3 false 21#6) = true := by decide
theorem test_wr_masks :
    row (exec (.wr 0x000002#21 0xDEADBEEF#32 0b0101#4 0b000#3) (probe .readWrite true true true true true)) =
      some (.clkOff, [true, true, true, true], 7#6, 0xDEADBEEF00000000#64, 0xA0#8) := by decide
theorem test_wrIncr_goes_on :
    row (exec (.wrIncr 0x000002#21 0xDEADBEEF#32 0b1000#4) (probe .readWrite true true true true true)) =
      some (.readWrite, [true, true, true, true], 7#6, 0xDEADBEEF00000000#64, 0x70#8) := by decide
theorem test_rd_command :
    row (exec (.rd 0x1FFFFF#21 0b000#3) (probe .caSend true true false false false)) =
      some (.caWait, [true, true, true, false], 7#6, 0xA007FFFF00060000#64, 0x50#8) := by decide
theorem test_rdIncr_goes_on :
    row (exec (.rdIncr 0x000002#21) (waiting true 0b000#3 true 5#6)) =
      some (.readAck, [true, true, false, false], 0#6, 0#64, 0#8) := by decide
theorem test_caRd :
    row (exec (.caRd 0x155555#21) calm) = some (.idle, [false, false, false, false], 0#6, 0xA005555500020000#64, 0#8) := by
  decide
theorem test_caWr :
    row (exec (.caWr 0x012345#21) calm) = some (.idle, [false, false, false, false], 0#6, 0x200048D100020000#64, 0#8) := by
  decide
theorem test_srloadCa :
    row (exec (.srloadCa 0xA00000000004#48) calm) =
      some (.idle, [false, false, false, false], 0#6, 0xA000000000040000#64, 0#8) := by decide
theorem test_srloadWd :
    row (exec (.srloadWd 0xDEADBEEF#32) calm) =
      some (.idle, [false, false, false, false], 0#6, 0xDEADBEEF00000000#64, 0#8) := by decide
theorem test_srloadWm :
    row (exec (.srloadWm 0b0111#4) calm) = some (.idle, [false, false, false, false], 0#6, 0#64, 0x70#8) := by decide

/-- The lines of a group after an instruction. -/
def ioAfter (o : Outcome State Fault Refusal) : Option IoLines :=
  match o with
  | .next t => some t.ioLines
  | .fault _ => none
  | .refused _ => none

theorem test_dlyDown :
    ioAfter (exec (.dlyDown .io) { calm with ioLines := ⟨3, 3, 3, 3, 3, 3, 3, 3, 3⟩ }) =
      some ⟨2, 2, 2, 2, 2, 2, 2, 2, 2⟩ := by decide
theorem test_dlyHold :
    ioAfter (exec (.dlyHold .io true false true) { calm with ioLines := ⟨3, 3, 3, 3, 3, 3, 3, 3, 3⟩ }) =
      some ⟨3, 3, 3, 3, 3, 3, 3, 3, 3⟩ := by decide
/-- A rising edge of `move` steps the lines over a step of the machine (R75). -/
theorem test_step_delay_edge :
    ioAfter (step { calm with
      ioLines := ⟨3, 3, 3, 3, 3, 3, 3, 3, 3⟩, ioMove := false, inp := { quietInputs with dlyIo := ⟨true, true, true⟩ } }) =
      some ⟨2, 2, 2, 2, 2, 2, 2, 2, 2⟩ := by decide
/-- A `move` that was 1 already does not (R75). -/
theorem test_step_delay_no_edge :
    ioAfter (step { calm with
      ioLines := ⟨3, 3, 3, 3, 3, 3, 3, 3, 3⟩, ioMove := true, inp := { quietInputs with dlyIo := ⟨true, true, true⟩ } }) =
      some ⟨3, 3, 3, 3, 3, 3, 3, 3, 3⟩ := by decide
theorem test_dlyUp (h : 4 < Config.dlyTaps) :
    ioAfter (exec (.dlyUp .io) { calm with ioLines := ⟨3, 3, 3, 3, 3, 3, 3, 3, 3⟩ }) =
      some ⟨4, 4, 4, 4, 4, 4, 4, 4, 4⟩ := by
  have e : stepUp .io calm.cycle 3 = 4 := if_pos h
  show some (IoLines.all (stepUp .io calm.cycle) _) = _
  simp only [IoLines.all, e]
theorem test_dlyLoad (l : IoLines) :
    ∃ p, ioAfter (exec (.dlyLoad .io true true false) { calm with ioLines := l }) = some ⟨p, p, p, p, p, p, p, p, p⟩ :=
  ⟨_, rfl⟩

/-! ### Lanes and pins (95_test_vectors.md sections 2.3, 2.8) -/

theorem test_lane_bytes :
    (laneSamples 0xDEADBEEF#32 0b1010#4).toList =
      [⟨0xDE#8, true⟩, ⟨0xAD#8, false⟩, ⟨0xBE#8, true⟩, ⟨0xEF#8, false⟩] := by decide
theorem test_receive_word :
    packDq ⟨⟨0x12#8, false⟩, ⟨0x34#8, false⟩, ⟨0x56#8, true⟩, ⟨0x78#8, false⟩⟩ = 0x12345678#32 := by decide
theorem test_read_window :
    datR { calm with
      srIn := 0x000000000000CAFE#64, inp := { quietInputs with rx := laneSamples 0xF00D1234#32 0b1010#4 } } =
      0xCAFEF00D#32 := by decide
/-- `CK` pulses twice and `DQ` carries `DE AD BE EF` in cycle 9 of program P1. -/
theorem test_pins_of_a_write_beat :
    ((pins { calm with st := .clkOff, cs := true, clkEn := true, dqOe := true, rwdsOe := true
                       srOut := 0xDEADBEEF00000000#64 }).toList.map fun p => (p.ck, p.csn, p.dq, p.rwds)) =
      [(true, false, some 0xDE#8, some false), (false, false, some 0xAD#8, some false),
       (true, false, some 0xBE#8, some false), (false, false, some 0xEF#8, some false)] := by decide

/-! ### The table words of the host's questions (log entry 5) -/

theorem test_table_word_state : decodeTableWord 8 0x09 = some .readAck := by decide
theorem test_table_word_mask : decodeTableWord 8 0x70 = some (.srloadWm 0b0111#4) := by decide
theorem test_table_word_request : decodeTableWord 4 0xA = some (.wrIncr 0#21 0#32 0#4) := by decide
theorem test_table_word_command : decodeTableWord 48 0x200000000002 = some (.caWr 0x000001#21) := by decide
/-- The first step after reset with that word placed runs it. -/
theorem test_fetch_word :
    row (step ({ calm with inp := quietInputs }.withFetchWord 48 0x200000000002)) =
      some (.caWait, [false, true, true, false], 0#6, 0x2000000000020000#64, 0#8) := by decide

/-! ### Witnesses: for every statement with hypotheses, a state and operands that meet them -/

theorem witness_DecodeEncodeAgree :
    (Instr.rd 0x1FFFFF#21 0b111#3).wellFormed = true ∧ (Instr.wr 0#21 0#32 0#4 0b011#3).wellFormed = true ∧
      (Instr.dlyHold .clk false true false).wellFormed = true ∧ (Instr.holdWait13).wellFormed = true := by decide

theorem witness_EncodeDecodeAgree :
    (Format.state ≠ .hostReq ∧ decode .state [26#8] = .ok .holdWait13) ∧
      (Format.ca48 ≠ .hostReq ∧ decode .ca48 [0x06#8, 0x00#8, 0xFF#8, 0xFF#8, 0x07#8, 0xA0#8] = .ok (.caRd 0x1FFFFF#21)) ∧
      (Format.dlyCtl ≠ .hostReq ∧ decode .dlyCtl [0b1111#8, 1#8] = .ok (.dlyHold .clk true true true)) := by decide

theorem witness_StepRunsDecoded :
    decode .state (stateWord (probe .readAck false true true false false)) = .ok .readAck ∧
      decode .dlyCtl (dlyWord .io (probe .readAck false true true false false)) = .ok (.dlyHold .io false false false) ∧
      decode .dlyCtl (dlyWord .clk (probe .readAck false true true false false)) = .ok (.dlyHold .clk false false false) := by
  decide

theorem witness_StepTakesTheNextInputs : ∃ t, step { calm with stim := [quietInputs] } = .next t := ⟨_, rfl⟩

theorem witness_RequestsActThroughTheState :
    hostRequest (probe .readWrite true true true true true) = some (.wr 0x000002#21 0xDEADBEEF#32 0b1100#4 0b000#3) ∧
      hostRequest (probe .readAck false true true false false) = some (.rd 0x000002#21 0b000#3) := by decide

theorem witness_ResetState : quietInputs.rst = false := by decide

theorem witness_RstOverridesEverything :
    ({ probe .readWrite true true true true true with inp := { quietInputs with rst := true, we := true } }).inp.rst = true := by
  decide

theorem witness_ChipSelectRule :
    ((probe .idle true true true true true).inp.rst = false ∧ (probe .idle true true true true true).st = .idle) ∧
      ((probe .cleanup true true true true true).inp.rst = false ∧ (probe .cleanup true true true true true).st = .cleanup) ∧
      ((probe .holdWait13 true true true true true).inp.rst = false ∧ (probe .holdWait13 true true true true true).st = .holdWait13) := by decide

theorem witness_ClockEnableRule :
    ((probe .caSend true true true true true).inp.rst = false ∧ (probe .caSend true true true true true).st = .caSend) ∧
      ((probe .clkOff true true true true true).inp.rst = false ∧ (probe .clkOff true true true true true).st = .clkOff) ∧
      ((probe .readAck true true true true true).inp.rst = false ∧ (probe .readAck true true true true true).st = .readAck) ∧
      ((probe .idle true true true true true).inp.rst = false ∧ (probe .idle true true true true true).st = .idle) := by decide

theorem witness_DataDriverRule :
    ((probe .caSend true true true true true).inp.rst = false ∧ (probe .caSend true true true true true).st = .caSend) ∧
      ((probe .latencyWait true true true true true).inp.rst = false ∧ (probe .latencyWait true true true true true).st = .latencyWait) ∧
      ((probe .cleanup true true true true true).inp.rst = false ∧ (probe .cleanup true true true true true).st = .cleanup) ∧
      ((probe .latencyWait3 true true true true true).inp.rst = false ∧ (probe .latencyWait3 true true true true true).st = .latencyWait3) ∧
      ((probe .idle true true true true true).inp.rst = false ∧ (probe .idle true true true true true).st = .idle) := by decide

theorem witness_StrobeDriverRule :
    ((probe .latencyWait3 true true true true true).inp.rst = false ∧ (probe .latencyWait3 true true true true true).st = .latencyWait3) ∧
      ((probe .cleanup true true true true true).inp.rst = false ∧ (probe .cleanup true true true true true).st = .cleanup) ∧
      ((probe .idle true true true true true).inp.rst = false ∧ (probe .idle true true true true true).st = .idle) := by decide

theorem witness_OutputRegisterRule :
    ((probe .caSend true true true true true).inp.rst = false ∧ (probe .caSend true true true true true).st = .caSend) ∧
      ((probe .readWrite true true true true true).inp.rst = false ∧ (probe .readWrite true true true true true).st = .readWrite) ∧
      ((probe .holdWait true true true true true).inp.rst = false ∧ (probe .holdWait true true true true true).st = .holdWait) ∧
      ((probe .idle true true true true true).inp.rst = false ∧ (probe .idle true true true true true).st = .idle) := by decide

theorem witness_StrobeRegisterRule :
    ((probe .readWrite true true true true true).inp.rst = false ∧ (probe .readWrite true true true true true).st = .readWrite) ∧
      ((probe .holdWait true true true true true).inp.rst = false ∧ (probe .holdWait true true true true true).st = .holdWait) ∧
      ((probe .idle true true true true true).inp.rst = false ∧ (probe .idle true true true true true).st = .idle) := by decide

theorem witness_InputRegistersRule :
    ((probe .idle true true true true true).inp.rst = false ∧ (probe .idle true true true true true).st = .idle) := by decide

theorem witness_TimeoutCounterRule :
    ((probe .caWait true true true true true).inp.rst = false ∧ (probe .caWait true true true true true).st = .caWait) ∧
      ((probe .readAck true true true true true).inp.rst = false ∧ (probe .readAck true true true true true).st = .readAck) ∧
      ((probe .idle true true true true true).inp.rst = false ∧ (probe .idle true true true true true).st = .idle) := by decide

theorem witness_TransitionTable :
    ((probe .idle true true true true true).inp.rst = false ∧ (probe .idle true true true true true).st = .idle) ∧
      ((probe .readWrite true true true true true).inp.rst = false ∧ (probe .readWrite true true true true true).st = .readWrite) ∧
      ((probe .readAck true true true true true).inp.rst = false ∧ (probe .readAck true true true true true).st = .readAck) ∧
      ((probe .holdWait13 true true true true true).inp.rst = false ∧ (probe .holdWait13 true true true true true).st = .holdWait13) := by decide

theorem witness_ReadWindowAcrossCycles :
    ((probe .readAck true true true true true).inp.rst = false ∧ (probe .readAck true true true true true).st = .readAck) := by decide

theorem witness_SynchronizersHaveThreeStages :
    ((probe .caSend true true true true true).inp.rst = false ∧ (probe .caSend true true true true true).st = .caSend) := by decide

/-- The branches of the register rules that also look at the inputs. -/
theorem witness_branches :
    ((probe .idle true true true true true).inp.cyc = true ∧ (probe .idle true true true true true).inp.stb = true) ∧
      (calm.st = .idle ∧ calm.inp.cyc = false) ∧
      (probe .readWrite true true true true true).inp.we = true ∧
      ((rwdsI (waiting true 0b000#3 true 21#6)).getLsbD 3 = true ∧ (waiting true 0b000#3 true 21#6).inp.cti ≠ 0b010#3) ∧
      ((rwdsI (waiting false 0b010#3 false 20#6)).getLsbD 3 = false ∧ (waiting false 0b010#3 false 20#6).inp.cyc = false) := by
  decide

theorem witness_WriteRequestEffects :
    (0b000#3 ≠ 0b010#3) ∧ (probe .idle true true true true true).st = .idle ∧
      (probe .caSend true true true true true).st = .caSend ∧
      (probe .latencyWait3 true true true true true).st = .latencyWait3 ∧
      (probe .readWrite true true true true true).st = .readWrite ∧
      (probe .readAck true true true true true).st = .readAck := by decide

theorem witness_ReadRequestEffects :
    (0b111#3 ≠ 0b010#3) ∧ (probe .idle false true true true true).st = .idle ∧
      (probe .caSend false true true true true).st = .caSend ∧
      (probe .latencyWait3 false true true true true).st = .latencyWait3 ∧
      (probe .readWrite false true true true true).st = .readWrite ∧
      (probe .readAck false true true true true).st = .readAck := by decide

theorem witness_LaneOrder : (3 < 4 ∧ 7 < 8) ∧ (0 < 4 ∧ 0 < 8) := by decide

theorem witness_WriteBeatLanesAskTheDevice :
    ((probe .readWrite true true true true true).inp.rst = false ∧ (probe .readWrite true true true true true).st = .readWrite ∧
        (probe .readWrite true true true true true).inp.we = true) ∧
      (laneSamples 0xDEADBEEF#32 0b0011#4).toList[0]? = some ⟨0xDE#8, false⟩ ∧
      (laneSamples 0xDEADBEEF#32 0b0011#4).toList[3]? = some ⟨0xEF#8, true⟩ := by decide

/-- A state with coming inputs. -/
def withInputs (s : State) (i : Inputs) (l : List Inputs) : State := { s with inp := i, stim := l }

/-- Being without reset for some cycles, checked on the coming inputs. -/
theorem unreset_of {s : State} {n : Nat} (h : (List.range n).all (fun k => !(s.inputAt k).rst) = true) : s.unreset n := by
  intro k hk
  have := List.all_eq_true.mp h k (List.mem_range.mpr hk)
  simpa using this

theorem witness_PinsAreThePureDelayOfTheInterface :
    (withInputs (probe .caWait true true true true false) quietInputs (List.replicate 4 quietInputs)).unreset 5 :=
  unreset_of (by decide)

theorem witness_ReceiveIsAPureDelay :
    (withInputs { calm with rxPipe := [⟨0x12#8, true⟩] } quietInputs (List.replicate 4 quietInputs)).unreset 5 :=
  unreset_of (by decide)

/-- A state in the middle of a write: not the reset state, and with the invariant. -/
def midWrite : State :=
  { State.reset with
    st := .readWrite, cs := true, clkEn := true, dqOe := true, rwdsOe := true
    srOut := 0xDEADBEEF00000000#64, srRwdsOut := 0x50#8
    inp := requestInputs true 0x000002#21 0x12345678#32 0b1111#4 0b010#3 }

theorem midWrite_inv : midWrite.Inv where
  selected := by decide
  clockOn := by decide
  clockOff := by decide
  commandDriven := by decide
  strobeReleased := by decide
  dataReleased := by decide
  bothDriven := by decide
  holdReleased := by decide
  outZero := by decide
  outLow := by decide
  maskZero := by decide
  maskLow := by decide
  tcCleared := by decide
  tcWaiting := by decide
  tcBound := by decide
  ctlLength := List.length_replicate
  txLength := List.length_replicate
  ckLength := List.length_replicate
  rxLength := List.length_replicate
  ioInRange := ⟨dlyTaps_pos, dlyTaps_pos, dlyTaps_pos, dlyTaps_pos, dlyTaps_pos, dlyTaps_pos, dlyTaps_pos, dlyTaps_pos,
    dlyTaps_pos⟩
  clkInRange := ⟨dlyTaps_pos, dlyTaps_pos⟩

theorem witness_ClockGateIsClockEnable : midWrite.Inv ∧ midWrite.clkEn = true := ⟨midWrite_inv, by decide⟩

theorem witness_StepKeepsInv : midWrite.Inv ∧ ∃ t, step midWrite = .next t := ⟨midWrite_inv, _, rfl⟩

theorem witness_GroupLinesStayTogether :
    ((calm.ioLines.agree ∧ calm.clkLines.agree) ∧ ∃ t, step calm = .next t) ∧
      (({ calm with ioLines := ⟨1, 2, 3, 4, 5, 6, 7, 8, 9⟩, inp := { quietInputs with dlyIo := ⟨false, true, true⟩ } }).inp.dlyIo.loadn
          = false) ∧
      (({ calm with clkLines := ⟨1, 2⟩, inp := { quietInputs with dlyClk := ⟨false, false, false⟩ } }).inp.dlyClk.loadn
          = false) :=
  ⟨⟨⟨⟨0, rfl⟩, ⟨0, rfl⟩⟩, _, rfl⟩, rfl, rfl⟩

theorem witness_FieldsAreReadAtTheirSamplingPoints :
    ((probe .caWait true true true true true).st ≠ .caSend) ∧ ((probe .caSend true true true true true).st ≠ .readWrite) ∧
      ((probe .caSend true true true true true).st ≠ .idle) ∧
      ((probe .readWrite true true true true true).st ≠ .idle ∧ (probe .readWrite true true true true true).st ≠ .readAck) ∧
      ((probe .clkOff true true true true true).st ≠ .readWrite ∧ (probe .clkOff true true true true true).st ≠ .readAck) ∧
      ((probe .readAck true true true true true).st ≠ .caSend ∧ (probe .readAck true true true true true).st ≠ .latencyWait3 ∧
        (probe .readAck true true true true true).st ≠ .readWrite) ∧
      ((probe .readWrite false true true true true).inp.we = false) := by decide

/-- The reset state with a host that holds a write request. -/
def writing : State :=
  withInputs State.reset (requestInputs true 0x000001#21 0xDEADBEEF#32 0b1111#4 0b000#3)
    (List.replicate 26 (requestInputs true 0x000001#21 0xDEADBEEF#32 0b1111#4 0b000#3))

theorem writing_inv : writing.Inv where
  selected := by decide
  clockOn := by decide
  clockOff := by decide
  commandDriven := by decide
  strobeReleased := by decide
  dataReleased := by decide
  bothDriven := by decide
  holdReleased := by decide
  outZero := by decide
  outLow := by decide
  maskZero := by decide
  maskLow := by decide
  tcCleared := by decide
  tcWaiting := by decide
  tcBound := by decide
  ctlLength := List.length_replicate
  txLength := List.length_replicate
  ckLength := List.length_replicate
  rxLength := List.length_replicate
  ioInRange := ⟨dlyTaps_pos, dlyTaps_pos, dlyTaps_pos, dlyTaps_pos, dlyTaps_pos, dlyTaps_pos, dlyTaps_pos, dlyTaps_pos,
    dlyTaps_pos⟩
  clkInRange := ⟨dlyTaps_pos, dlyTaps_pos⟩

theorem witness_CommonCourseOfATransaction :
    writing.Inv ∧ writing.st = .idle ∧ writing.unreset 9 ∧ (writing.inputAt 0).cyc = true ∧ (writing.inputAt 0).stb = true :=
  ⟨writing_inv, rfl, unreset_of (by decide), by decide, by decide⟩

theorem witness_SingleWriteCourse :
    writing.Inv ∧ writing.st = .idle ∧ writing.unreset 26 ∧ (writing.inputAt 0).cyc = true ∧ (writing.inputAt 0).stb = true ∧
      (writing.inputAt 1).we = true ∧ (writing.inputAt 7).we = true ∧ (writing.inputAt 8).we = true ∧
      (writing.inputAt 8).cti ≠ 0b010#3 :=
  ⟨writing_inv, rfl, unreset_of (by decide), by decide, by decide, by decide, by decide, by decide, by decide⟩

/-- A burst of three beats, and a burst of one. -/
def bursting : State :=
  withInputs { calm with st := .readWrite } (requestInputs true 0#21 0x11111111#32 0b1111#4 0b010#3)
    [requestInputs true 0#21 0x22222222#32 0b1111#4 0b010#3, requestInputs true 0#21 0x33333333#32 0b1111#4 0b111#3]

theorem witness_BurstWriteCourse :
    (bursting.st = .readWrite ∧ bursting.unreset 3 ∧ (∀ j ≤ 2, (bursting.inputAt j).we = true) ∧
        (∀ j < 2, (bursting.inputAt j).cti = 0b010#3) ∧ (bursting.inputAt 2).cti ≠ 0b010#3) ∧
      (writing.unreset 1 ∧ (∀ j ≤ 0, (writing.inputAt j).we = true) ∧ (writing.inputAt 0).cti ≠ 0b010#3) :=
  ⟨⟨rfl, unreset_of (by decide), by decide, by decide, by decide⟩, unreset_of (by decide), by decide, by decide⟩

/-- The inputs of a waiting read, and with a strobe. -/
def readInputs (v : Bool) : Inputs :=
  { requestInputs false 0x000002#21 0#32 0#4 0b000#3 with rx := laneSamples 0#32 (BitVec.ofBool v ++ 0#3) }

/-- A read in its first READ-ACK cycle, with a strobe in the `k + 1`-th. -/
def strobeAfter (k : Nat) : State :=
  { calm with
    st := .readAck, cs := true, clkEn := true
    inp := readInputs (k == 0)
    stim := List.replicate (k - 1) (readInputs false) ++ List.replicate 40 (readInputs true) }

theorem witness_SingleReadCourse_first :
    (strobeAfter 0).st = .readAck ∧ (strobeAfter 0).tc = 0#6 ∧ (strobeAfter 0).unreset 19 ∧
      (∀ j ≤ 0, ((strobeAfter 0).inputAt j).cyc = true) ∧ ((strobeAfter 0).inputAt 0).cti ≠ 0b010#3 ∧
      traceOf vstb 1 (strobeAfter 0) = List.replicate 0 false ++ [true] :=
  ⟨rfl, rfl, unreset_of (by decide), by decide, by decide, by decide⟩

theorem witness_SingleReadCourse_last :
    (strobeAfter 21).st = .readAck ∧ (strobeAfter 21).tc = 0#6 ∧ (strobeAfter 21).unreset 40 ∧
      (∀ j ≤ 21, ((strobeAfter 21).inputAt j).cyc = true) ∧ ((strobeAfter 21).inputAt 21).cti ≠ 0b010#3 ∧
      traceOf vstb 22 (strobeAfter 21) = List.replicate 21 false ++ [true] :=
  ⟨rfl, rfl, unreset_of (by decide), by decide, by decide, by decide⟩

/-- A read that gets no strobe. -/
def strobeless : State :=
  { strobeAfter 21 with stim := List.replicate 40 (readInputs false) }

theorem witness_ReadTimeoutCourse :
    strobeless.st = .readAck ∧ strobeless.tc = 0#6 ∧ strobeless.unreset 40 ∧
      (∀ j < 22, (strobeless.inputAt j).cyc = true) ∧ traceOf vstb 22 strobeless = List.replicate 22 false :=
  ⟨rfl, rfl, unreset_of (by decide), by decide, by decide⟩

theorem witness_CancelCourse :
    (withInputs (strobeAfter 21) quietInputs (List.replicate 20 quietInputs)).st = .readAck ∧
      (withInputs (strobeAfter 21) quietInputs (List.replicate 20 quietInputs)).unreset 19 ∧
      ((withInputs (strobeAfter 21) quietInputs (List.replicate 20 quietInputs)).inputAt 0).cyc = false :=
  ⟨rfl, unreset_of (by decide), by decide⟩

/-- The inputs of a waiting burst read, with `cti = 0b010`. -/
def burstInputs (v : Bool) : Inputs := { readInputs v with cti := 0b010#3 }

/-- A burst read in its first READ-ACK cycle, with strobes as `v` and `vs` tell, then the inputs `l`. -/
def burstRead (v : Bool) (vs : List Bool) (l : List Inputs) : State :=
  { calm with
    st := .readAck, cs := true, clkEn := true
    inp := burstInputs v
    stim := vs.map burstInputs ++ l }

theorem witness_BurstReadCourse :
    (burstRead true [false, true] (List.replicate 22 (readInputs true))).st = .readAck ∧
      (burstRead true [false, true] (List.replicate 22 (readInputs true))).tc = 0#6 ∧
      (burstRead true [false, true] (List.replicate 22 (readInputs true))).unreset 22 ∧
      (∀ j ≤ 3, ((burstRead true [false, true] (List.replicate 22 (readInputs true))).inputAt j).cyc = true) ∧
      (∀ j < 3, [true, false, true][j]? = some true →
        ((burstRead true [false, true] (List.replicate 22 (readInputs true))).inputAt j).cti = 0b010#3) ∧
      ((burstRead true [false, true] (List.replicate 22 (readInputs true))).inputAt 3).cti ≠ 0b010#3 ∧
      (∀ g ∈ gaps 0 [true, false, true], g ≤ 20) ∧
      traceOf vstb 4 (burstRead true [false, true] (List.replicate 22 (readInputs true))) = [true, false, true] ++ [true] :=
  ⟨rfl, rfl, unreset_of (by decide), by decide, by decide, by decide, by decide, by decide⟩

/-- The last beat of a burst in the 22nd cycle of its gap. -/
theorem witness_BurstReadCourse_last :
    gapAfter 0 (true :: List.replicate 21 false) = 21 ∧ (∀ g ∈ gaps 0 (true :: List.replicate 21 false), g ≤ 20) ∧
      (burstRead true (List.replicate 21 false) (List.replicate 22 (readInputs true))).unreset 41 ∧
      (∀ j ≤ 22, ((burstRead true (List.replicate 21 false) (List.replicate 22 (readInputs true))).inputAt j).cyc = true) ∧
      ((burstRead true (List.replicate 21 false) (List.replicate 22 (readInputs true))).inputAt 0).cti = 0b010#3 ∧
      ((burstRead true (List.replicate 21 false) (List.replicate 22 (readInputs true))).inputAt 22).cti ≠ 0b010#3 ∧
      traceOf vstb 23 (burstRead true (List.replicate 21 false) (List.replicate 22 (readInputs true))) =
        (true :: List.replicate 21 false) ++ [true] :=
  ⟨by decide, by decide, unreset_of (by decide), by decide, by decide, by decide, by decide⟩

theorem witness_BurstReadGapAborts :
    (burstRead true (List.replicate 21 false) (List.replicate 22 (readInputs false))).st = .readAck ∧
      (burstRead true (List.replicate 21 false) (List.replicate 22 (readInputs false))).tc = 0#6 ∧
      (burstRead true (List.replicate 21 false) (List.replicate 22 (readInputs false))).unreset 41 ∧
      (∀ j ≤ 22, ((burstRead true (List.replicate 21 false) (List.replicate 22 (readInputs false))).inputAt j).cyc = true) ∧
      (∀ j < 22, (true :: List.replicate 21 false)[j]? = some true →
        ((burstRead true (List.replicate 21 false) (List.replicate 22 (readInputs false))).inputAt j).cti = 0b010#3) ∧
      (∀ g ∈ gaps 0 (true :: List.replicate 21 false), g ≤ 20) ∧ gapAfter 0 (true :: List.replicate 21 false) = 21 ∧
      traceOf vstb 23 (burstRead true (List.replicate 21 false) (List.replicate 22 (readInputs false))) =
        (true :: List.replicate 21 false) ++ [false] :=
  ⟨rfl, rfl, unreset_of (by decide), by decide, by decide, by decide, by decide, by decide⟩

/-- A selected device in CA-SEND, with the same inputs for thirteen cycles. -/
def selecting (i : Inputs) : State :=
  withInputs (probe .caSend i.we true false false false) i (List.replicate 12 i)

theorem witness_DeviceSelectedForTenCycles_write :
    (selecting (requestInputs true 0#21 0#32 0#4 0b000#3)).st = .caSend ∧
      (selecting (requestInputs true 0#21 0#32 0#4 0b000#3)).cs = true ∧
      (selecting (requestInputs true 0#21 0#32 0#4 0b000#3)).unreset 10 ∧
      ((selecting (requestInputs true 0#21 0#32 0#4 0b000#3)).inputAt 7).we = true ∧
      ((selecting (requestInputs true 0#21 0#32 0#4 0b000#3)).inputAt 7).cti ≠ 0b010#3 :=
  ⟨rfl, rfl, unreset_of (by decide), by decide, by decide⟩

theorem witness_DeviceSelectedForTenCycles_read :
    (selecting (readInputs true)).st = .caSend ∧ (selecting (readInputs true)).cs = true ∧
      (selecting (readInputs true)).unreset 10 ∧ ((selecting (readInputs true)).inputAt 7).we = false ∧
      ((selecting (readInputs true)).inputAt 8).cyc = true ∧ ((selecting (readInputs true)).inputAt 8).cti ≠ 0b010#3 ∧
      (traceOf vstb 9 (selecting (readInputs true))).getLast? = some true :=
  ⟨rfl, rfl, unreset_of (by decide), by decide, by decide, by decide, by decide⟩

end Sys2Proof.Tests.Slice0
end

section
/-! The inputs and the cycle number across a step (00_scope.md R9, 43_phy.md R190). -/

namespace Sys2Proof.Machine

theorem inputAt_succ (s : State) (k : Nat) :
    s.inputAt (k + 1) = (s.stim[k]?).getD (Config.freeInputs (s.cycle + k + 1)) := rfl

/-- The end of a cycle takes the next inputs, whatever the sequencer and the delay lines make of the state: the stimulus
moves up by one, and beyond it the free inputs go by the number of the cycle they come in. -/
@[simp] theorem inputAt_finishCycle (pre post : State) (k : Nat) :
    (finishCycle pre post).inputAt k = pre.inputAt (k + 1) := by
  cases k with
  | zero => exact nextInputs_eq pre
  | succ k =>
    have hcycle : pre.cycle + 1 + k + 1 = pre.cycle + (k + 1) + 1 := by omega
    simp only [inputAt_succ, finishCycle_stim, finishCycle_cycle, List.getElem?_tail, hcycle]

/-- Settles O9: a step ends in `finishCycle`, which takes the next inputs and counts the cycle. -/
theorem stepTakesTheNextInputs : Obligations.StepTakesTheNextInputs := by
  intro s t k h
  rw [step_next h]
  exact ⟨inputAt_finishCycle s _ k, finishCycle_cycle s _⟩

end Sys2Proof.Machine
end

section
/-! The registers the sequencer's rules write beside the state and the shift registers (10_state.md R15 to R18, R23): what a
step makes of all five, said once as `controlsAfter`. The rule of each register is a component of it. -/

namespace Sys2Proof.Machine

/-- The chip select, the clock enable, the drivers of the data and strobe lanes, and the timeout counter. -/
structure Controls where
  cs : Bool
  clkEn : Bool
  dqOe : Bool
  rwdsOe : Bool
  tc : BitVec 6

/-- The control registers of a state. -/
def controls (s : State) : Controls := ⟨s.cs, s.clkEn, s.dqOe, s.rwdsOe, s.tc⟩

/-- The control registers after the sequencer's cycle (41_sequencer.md R111 to R137): seven states and a triggered IDLE write
some of them, and all other states none. An abort (R207) does not show in them. -/
def controlsAfter (s : State) : Controls :=
  match s.st with
  | .idle => { controls s with cs := trigger s || s.cs }
  | .caSend => { controls s with clkEn := true, dqOe := true }
  | .caWait => { controls s with tc := 0#6 }
  | .latencyWait => { controls s with dqOe := false }
  | .latencyWait3 => { controls s with dqOe := s.inp.we, rwdsOe := s.inp.we }
  | .readAck =>
    { controls s with
      tc := if vstb s then 0#6 else s.tc + 1#6
      clkEn := s.clkEn && !(vstb s && !incrementing s) }
  | .clkOff => { controls s with clkEn := false }
  | .cleanup => { controls s with cs := false, dqOe := false, rwdsOe := false }
  | _ => controls s

theorem trigger_iff {s : State} : trigger s = true ↔ s.inp.cyc = true ∧ s.inp.stb = true := by
  simp [trigger]

theorem incrementing_iff {s : State} : incrementing s = true ↔ s.inp.cti = 0b010#3 := by
  simp [incrementing, ctiIncr]

theorem vstb_eq (s : State) : vstb s = (rwdsI s).getLsbD 3 := rfl

theorem controls_readAckCycle (s : State) : controls (readAckCycle s) = controls (strobeCycle s) := by
  obtain ⟨-, h⟩ | ⟨-, -, h⟩ := readAckCycle_cases s
  · rw [h]
  · rw [h]; rfl

theorem controls_readWriteCycle (s : State) : controls (readWriteCycle s) = controls s := by
  unfold readWriteCycle
  split <;> rfl

theorem controls_sequencerCycle (s : State) : controls (sequencerCycle s) = controlsAfter s := by
  unfold sequencerCycle controlsAfter
  cases s.st with
  | readWrite => exact controls_readWriteCycle s
  | readAck => exact controls_readAckCycle s
  | _ => rfl

/-- The delay lines are no input of the control registers. -/
theorem controlsAfter_dlyCycle (g : DlyGroup) (s : State) : controlsAfter (dlyCycle g s) = controlsAfter s := by
  cases g <;> rfl

/-- The end of a cycle without reset: the serialization layer advances and the next inputs come. -/
theorem finishCycle_of_rst_eq_false {s : State} (h : s.inp.rst = false) (p : State) :
    finishCycle s p =
      { advancePhy s p with inp := nextInputs s, stim := s.stim.tail, cycle := s.cycle + 1 } := by
  simp [finishCycle, h]

theorem step_controls {s : State} (h : s.inp.rst = false) : ∃ t, step s = .next t ∧ controls t = controlsAfter s := by
  refine ⟨_, step_eq s, ?_⟩
  rw [finishCycle_of_rst_eq_false h]
  calc controls (sequencerCycle (dlyCycle .clk (dlyCycle .io s)))
      = controlsAfter (dlyCycle .clk (dlyCycle .io s)) := controls_sequencerCycle _
    _ = controlsAfter s := by rw [controlsAfter_dlyCycle, controlsAfter_dlyCycle]

theorem controlsAfter_cs (s : State) :
    (controlsAfter s).cs =
      (if s.st = .idle ∧ s.inp.cyc = true ∧ s.inp.stb = true then true
        else if s.st = .cleanup then false else s.cs) := by
  unfold controlsAfter
  simp only [← trigger_iff]
  cases s.st with
  | idle => cases trigger s <;> rfl
  | _ => rfl

theorem controlsAfter_clkEn (s : State) :
    (controlsAfter s).clkEn =
      (if s.st = .caSend then true
        else if s.st = .clkOff then false
        else if s.st = .readAck ∧ (rwdsI s).getLsbD 3 = true ∧ s.inp.cti ≠ 0b010#3 then false else s.clkEn) := by
  unfold controlsAfter
  simp only [← vstb_eq, ne_eq, ← incrementing_iff]
  cases s.st with
  | readAck => cases vstb s <;> cases incrementing s <;> simp
  | _ => rfl

theorem controlsAfter_dqOe (s : State) :
    (controlsAfter s).dqOe =
      (if s.st = .caSend then true
        else if s.st = .latencyWait ∨ s.st = .cleanup then false
        else if s.st = .latencyWait3 then s.inp.we else s.dqOe) := by
  unfold controlsAfter
  cases s.st <;> rfl

theorem controlsAfter_rwdsOe (s : State) :
    (controlsAfter s).rwdsOe =
      (if s.st = .latencyWait3 then s.inp.we else if s.st = .cleanup then false else s.rwdsOe) := by
  unfold controlsAfter
  cases s.st <;> rfl

theorem controlsAfter_tc_toNat (s : State) :
    (controlsAfter s).tc.toNat =
      (if s.st = .caWait then 0
        else if s.st = .readAck then (if (rwdsI s).getLsbD 3 = true then 0 else (s.tc.toNat + 1) % 64)
        else s.tc.toNat) := by
  unfold controlsAfter
  rw [← vstb_eq]
  cases s.st with
  | readAck => cases vstb s <;> simp
  | _ => rfl

/-- Settles O13: the chip select among the control registers after a step. -/
theorem chipSelectRule : Obligations.ChipSelectRule := by
  intro s h
  obtain ⟨t, hstep, ht⟩ := step_controls h
  exact ⟨t, hstep, rfl, rfl, (congrArg Controls.cs ht).trans (controlsAfter_cs s)⟩

/-- Settles O14: the clock enable among the control registers after a step. -/
theorem clockEnableRule : Obligations.ClockEnableRule := by
  intro s h
  obtain ⟨t, hstep, ht⟩ := step_controls h
  exact ⟨t, hstep, rfl, rfl, (congrArg Controls.clkEn ht).trans (controlsAfter_clkEn s)⟩

/-- Settles O15: the data-lane driver among the control registers after a step. -/
theorem dataDriverRule : Obligations.DataDriverRule := by
  intro s h
  obtain ⟨t, hstep, ht⟩ := step_controls h
  exact ⟨t, hstep, rfl, (congrArg Controls.dqOe ht).trans (controlsAfter_dqOe s)⟩

/-- Settles O16: the strobe-lane driver among the control registers after a step. -/
theorem strobeDriverRule : Obligations.StrobeDriverRule := by
  intro s h
  obtain ⟨t, hstep, ht⟩ := step_controls h
  exact ⟨t, hstep, rfl, (congrArg Controls.rwdsOe ht).trans (controlsAfter_rwdsOe s)⟩

/-- Settles O20: the timeout counter among the control registers after a step, as a number. -/
theorem timeoutCounterRule : Obligations.TimeoutCounterRule := by
  intro s h
  obtain ⟨t, hstep, ht⟩ := step_controls h
  exact ⟨t, hstep, rfl, (congrArg (·.tc.toNat) ht).trans (controlsAfter_tc_toNat s)⟩

end Sys2Proof.Machine
end

section
/-! The synchronizers (10_state.md R28, 43_phy.md R176, R187). -/

namespace Sys2Proof.Machine

@[simp] theorem syncEdge_stage_one (c : BitVec 3) (x : Bool) : (syncEdge c x).getLsbD 0 = x :=
  BitVec.getLsbD_append.trans (by simp)

/-- An edge moves a stage's value into the next stage. -/
@[simp] theorem syncEdge_stage_succ (c : BitVec 3) (x : Bool) {i : Nat} (h : i < 2) :
    (syncEdge c x).getLsbD (i + 1) = c.getLsbD i :=
  BitVec.getLsbD_append.trans (by simp [h])

theorem syncOut_three_edges (c : BitVec 3) (x y z : Bool) : syncOut (syncEdge (syncEdge (syncEdge c x) y) z) = x :=
  calc (syncEdge (syncEdge (syncEdge c x) y) z).getLsbD 2
      = (syncEdge (syncEdge c x) y).getLsbD 1 := syncEdge_stage_succ _ z (by decide)
    _ = (syncEdge c x).getLsbD 0 := syncEdge_stage_succ _ y (by decide)
    _ = x := syncEdge_stage_one c x

/-- The clock of the synchronizers has one edge in a cycle or two, for every chain alike. -/
theorem syncCycle_cases (k : IoClock) :
    (∀ c x, syncCycle k c x = syncEdge c x) ∨ (∀ c x, syncCycle k c x = syncEdge (syncEdge c x) x) := by
  cases k with
  | sys90 => exact .inl fun _ _ => rfl
  | sys2x => exact .inr fun _ _ => rfl
  | sys2x90 => exact .inr fun _ _ => rfl

theorem step_synchronizers {s : State} (h : s.inp.rst = false) : ∃ t, step s = .next t ∧
    t.csnSync = syncCycle Config.syncClock s.csnSync (!s.cs) ∧
    t.dqOeSync = syncCycle Config.syncClock s.dqOeSync s.dqOe ∧
    t.rwdsOeSync = syncCycle Config.syncClock s.rwdsOeSync s.rwdsOe := by
  refine ⟨_, step_eq s, ?_⟩
  rw [finishCycle_of_rst_eq_false h]
  exact ⟨rfl, rfl, rfl⟩

/-- Settles O39: stage by stage for the three edges, and by the number of edges in a cycle for the step. -/
theorem synchronizersHaveThreeStages : Obligations.SynchronizersHaveThreeStages := by
  refine ⟨syncOut_three_edges, fun s h => ?_⟩
  obtain ⟨t, hstep, hcsn, hdq, hrwds⟩ := step_synchronizers h
  refine ⟨t, hstep, ?_⟩
  rw [hcsn, hdq, hrwds]
  obtain hone | htwo := syncCycle_cases Config.syncClock
  · exact .inl ⟨hone _ _, hone _ _, hone _ _⟩
  · exact .inr ⟨htwo _ _, htwo _ _, htwo _ _⟩

end Sys2Proof.Machine
end

section
/-! The delay lines across a step (10_state.md R30, 43_phy.md R181): every line of a group moves by the one function its
group's record stands for, so lines that agree go on agreeing. -/

namespace Sys2Proof.Machine

/-- The sequencer's cycle writes the ten registers of 10_state.md R13 and nothing else. -/
theorem sequencerCycle_frame (s : State) :
    sequencerCycle s =
      { s with
        st := (sequencerCycle s).st
        cs := (sequencerCycle s).cs
        clkEn := (sequencerCycle s).clkEn
        dqOe := (sequencerCycle s).dqOe
        rwdsOe := (sequencerCycle s).rwdsOe
        srOut := (sequencerCycle s).srOut
        srIn := (sequencerCycle s).srIn
        srRwdsOut := (sequencerCycle s).srRwdsOut
        srRwdsIn := (sequencerCycle s).srRwdsIn
        tc := (sequencerCycle s).tc } := by
  unfold sequencerCycle
  cases s.st with
  | readWrite => unfold readWriteCycle; cases s.inp.we <;> rfl
  | readAck => obtain ⟨-, h⟩ | ⟨-, -, h⟩ := readAckCycle_cases s <;> rw [h] <;> rfl
  | _ => rfl

@[simp] theorem sequencerCycle_ioLines (s : State) : (sequencerCycle s).ioLines = s.ioLines := by
  rw [sequencerCycle_frame]

@[simp] theorem sequencerCycle_clkLines (s : State) : (sequencerCycle s).clkLines = s.clkLines := by
  rw [sequencerCycle_frame]

/-- Reset does not touch the lines, so this holds of a cycle with `rst` too. -/
theorem step_ioLines {s t : State} (h : step s = .next t) :
    t.ioLines = s.ioLines.all (lineMove .io s.inp.dlyIo s.ioMove s.cycle) := by
  rw [step_next h, finishCycle_ioLines]
  simp [dlyCycle, dlyRecord, dlyMovePrev]

theorem step_clkLines {s t : State} (h : step s = .next t) :
    t.clkLines = s.clkLines.all (lineMove .clk s.inp.dlyClk s.clkMove s.cycle) := by
  rw [step_next h, finishCycle_clkLines]
  simp [dlyCycle, dlyRecord, dlyMovePrev]

theorem lineMove_load {r : DlyRecord} (h : r.loadn = false) (g : DlyGroup) (movePrev : Bool) (n : Nat) :
    lineMove g r movePrev n = fun _ => loadPosition g := by
  simp [lineMove, h]

theorem IoLines.agree_all {l : IoLines} (f : Nat → Nat) (h : l.agree) : (l.all f).agree := by
  obtain ⟨p, rfl⟩ := h
  exact ⟨f p, rfl⟩

theorem IoLines.agree_all_const (l : IoLines) (p : Nat) : (l.all fun _ => p).agree := ⟨p, rfl⟩

theorem ClkLines.agree_all {l : ClkLines} (f : Nat → Nat) (h : l.agree) : (l.all f).agree := by
  obtain ⟨p, rfl⟩ := h
  exact ⟨f p, rfl⟩

theorem ClkLines.agree_all_const (l : ClkLines) (p : Nat) : (l.all fun _ => p).agree := ⟨p, rfl⟩

/-- Settles O44: one function moves all lines of a group, and a load's is constant. -/
theorem groupLinesStayTogether : Obligations.GroupLinesStayTogether := by
  intro s t h
  rw [step_ioLines h, step_clkLines h]
  constructor
  · rintro (hagree | hload)
    · exact IoLines.agree_all _ hagree
    · rw [lineMove_load hload]
      exact IoLines.agree_all_const _ _
  · rintro (hagree | hload)
    · exact ClkLines.agree_all _ hagree
    · rw [lineMove_load hload]
      exact ClkLines.agree_all_const _ _

end Sys2Proof.Machine
end

section
/-! What the sequencer's cycle makes of the state in each of the five states that read the host bus (41_sequencer.md R111,
R112, R118 to R120), with the registered defaults written as shifts. -/

namespace Sys2Proof.Machine

/-- A word taken in from below, as a concatenation and as a shift. -/
theorem extractLsb'_append_eq_shiftLeft_or {m n : Nat} (x : BitVec (m + n)) (y : BitVec n) :
    x.extractLsb' 0 m ++ y = x <<< n ||| y.setWidth (m + n) := by
  apply BitVec.eq_of_getLsbD_eq
  intro i hi
  rw [BitVec.getLsbD_append]
  by_cases h : i < n
  · simp [h, hi]
  · have hy : y.getLsbD i = false := BitVec.getLsbD_of_ge y i (by omega)
    have hx : i - n < m := by omega
    rw [if_neg h, BitVec.getLsbD_extractLsb', BitVec.getLsbD_or, BitVec.getLsbD_shiftLeft, BitVec.getLsbD_setWidth, hy]
    simp [h, hi, hx]

/-- The registered defaults are the shifts of 10_state.md R19 to R22. -/
theorem shiftAll_eq_shiftedLeft (s : State) : shiftAll s = shiftedLeft s := by
  have hout : s.srOut.extractLsb' 0 32 ++ 0#32 = s.srOut <<< 32 := by
    simpa using extractLsb'_append_eq_shiftLeft_or (m := 32) (n := 32) s.srOut 0#32
  have hmask : s.srRwdsOut.extractLsb' 0 4 ++ 0#4 = s.srRwdsOut <<< 4 := by
    simpa using extractLsb'_append_eq_shiftLeft_or (m := 4) (n := 4) s.srRwdsOut 0#4
  have hin : s.srIn.extractLsb' 0 32 ++ dqI s = s.srIn <<< 32 ||| (dqI s).setWidth 64 :=
    extractLsb'_append_eq_shiftLeft_or (m := 32) (n := 32) s.srIn (dqI s)
  have hstrobe : s.srRwdsIn.extractLsb' 0 4 ++ rwdsI s = s.srRwdsIn <<< 4 ||| (rwdsI s).setWidth 8 :=
    extractLsb'_append_eq_shiftLeft_or (m := 4) (n := 4) s.srRwdsIn (rwdsI s)
  simp only [shiftAll, shiftedLeft, hout, hmask, hin, hstrobe]

@[simp] theorem shiftedLeft_clkEn (s : State) : (shiftedLeft s).clkEn = s.clkEn := by
  rw [shiftedLeft]

theorem timedOut_iff {s : State} : timedOut s = true ↔ 20 < s.tc.toNat := by
  simp [timedOut, tTimeout, BitVec.ult]

theorem sequencerCycle_of_idle {s : State} (h : s.st = .idle) (ht : trigger s = true) :
    sequencerCycle s = { shiftedLeft s with cs := true, st := .caSend } := by
  simp [sequencerCycle, h, idleCycle, ht, shiftAll_eq_shiftedLeft]

theorem sequencerCycle_of_caSend {s : State} (h : s.st = .caSend) :
    sequencerCycle s =
      { shiftedLeft s with clkEn := true, dqOe := true, srOut := caWord s.inp.we s.inp.adr ++ 0#16, st := .caWait } := by
  simp [sequencerCycle, h, caSendCycle, loadCommand, commandWord, shiftAll_eq_shiftedLeft]

theorem sequencerCycle_of_latencyWait3 {s : State} (h : s.st = .latencyWait3) :
    sequencerCycle s = { shiftedLeft s with dqOe := s.inp.we, rwdsOe := s.inp.we, st := .readWrite } := by
  simp [sequencerCycle, h, latencyWait3Cycle, shiftAll_eq_shiftedLeft]

/-- A write beat (R119). -/
theorem sequencerCycle_of_writeBeat {s : State} (h : s.st = .readWrite) (hwe : s.inp.we = true) :
    sequencerCycle s =
      { shiftedLeft s with
        srOut := s.inp.datW ++ 0#32
        srRwdsOut := ~~~s.inp.sel ++ 0#4
        st := if s.inp.cti = 0b010#3 then .readWrite else .clkOff } := by
  simp [sequencerCycle, h, readWriteCycle, hwe, writeBeatCycle, loadMask, loadData, incrementing_iff, shiftAll_eq_shiftedLeft]

/-- A write beat that ends the burst. -/
theorem sequencerCycle_of_lastWriteBeat {s : State} (h : s.st = .readWrite) (hwe : s.inp.we = true)
    (hcti : s.inp.cti ≠ 0b010#3) :
    sequencerCycle s =
      { shiftedLeft s with srOut := s.inp.datW ++ 0#32, srRwdsOut := ~~~s.inp.sel ++ 0#4, st := .clkOff } := by
  rw [sequencerCycle_of_writeBeat h hwe, if_neg hcti]

/-- The strobe of a last beat, as a condition on the inputs. -/
theorem lastStrobe_iff {s : State} :
    (vstb s && !incrementing s) = true ↔ (rwdsI s).getLsbD 3 = true ∧ s.inp.cti ≠ 0b010#3 := by
  rw [Bool.and_eq_true, vstb_eq, Bool.not_eq_true', ne_eq, ← incrementing_iff, Bool.not_eq_true]

/-- The strobe's actions in READ-ACK (R120), before an abort. -/
theorem strobeCycle_eq (s : State) :
    strobeCycle s =
      { shiftedLeft s with
        tc := if (rwdsI s).getLsbD 3 = true then 0#6 else s.tc + 1#6
        clkEn := if (rwdsI s).getLsbD 3 = true ∧ s.inp.cti ≠ 0b010#3 then false else s.clkEn
        st := if (rwdsI s).getLsbD 3 = true ∧ s.inp.cti ≠ 0b010#3 then .cleanup else .readAck } := by
  have hclk : (s.clkEn && !(vstb s && !incrementing s)) =
      if vstb s && !incrementing s then false else s.clkEn := by
    cases vstb s && !incrementing s <;> simp
  rw [strobeCycle, hclk, if_congr lastStrobe_iff rfl rfl, if_congr lastStrobe_iff rfl rfl, vstb_eq,
    shiftAll_eq_shiftedLeft]

/-- READ-ACK while `cyc` is held: the one abort is the timeout (R120, R207). -/
theorem sequencerCycle_of_readAck {s : State} (h : s.st = .readAck) (hcyc : s.inp.cyc = true) :
    sequencerCycle s =
      { shiftedLeft s with
        tc := if (rwdsI s).getLsbD 3 = true then 0#6 else s.tc + 1#6
        clkEn := if (rwdsI s).getLsbD 3 = true ∧ s.inp.cti ≠ 0b010#3 then false else s.clkEn
        st :=
          if 20 < s.tc.toNat then .clkOff
          else if (rwdsI s).getLsbD 3 = true ∧ s.inp.cti ≠ 0b010#3 then .cleanup else .readAck } := by
  have hseq : sequencerCycle s = readAckCycle s := by simp only [sequencerCycle, h]
  rw [hseq]
  obtain ⟨hnone, heq⟩ | ⟨cause, hsome, heq⟩ := readAckCycle_cases s
  · have hin : ¬20 < s.tc.toNat := by simp [← timedOut_iff, (abortCause_eq_none.mp hnone).2]
    rw [heq, strobeCycle_eq, if_neg hin]
  · have hlate : 20 < s.tc.toNat := by
      rw [← timedOut_iff, ← Bool.not_eq_false]
      exact fun hto => by simp [abortCause_eq_none.mpr ⟨hcyc, hto⟩] at hsome
    rw [heq, strobeCycle_eq, if_pos hlate]

/-- READ-ACK on a bus that ends the burst. -/
theorem sequencerCycle_of_readAck_last {s : State} (h : s.st = .readAck) (hcyc : s.inp.cyc = true)
    (hcti : s.inp.cti ≠ 0b010#3) :
    sequencerCycle s =
      { shiftedLeft s with
        tc := if (rwdsI s).getLsbD 3 = true then 0#6 else s.tc + 1#6
        clkEn := if (rwdsI s).getLsbD 3 = true then false else s.clkEn
        st := if 20 < s.tc.toNat then .clkOff else if (rwdsI s).getLsbD 3 = true then .cleanup else .readAck } := by
  rw [sequencerCycle_of_readAck h hcyc, if_congr (and_iff_left hcti) rfl rfl, if_congr (and_iff_left hcti) rfl rfl]

/-- READ-ACK on a bus that goes on with the burst. -/
theorem sequencerCycle_of_readAck_more {s : State} (h : s.st = .readAck) (hcyc : s.inp.cyc = true)
    (hcti : s.inp.cti = 0b010#3) :
    sequencerCycle s =
      { shiftedLeft s with
        tc := if (rwdsI s).getLsbD 3 = true then 0#6 else s.tc + 1#6
        st := if 20 < s.tc.toNat then .clkOff else .readAck } := by
  have hmore : ¬((rwdsI s).getLsbD 3 = true ∧ s.inp.cti ≠ 0b010#3) := fun hlast => hlast.2 hcti
  simp only [sequencerCycle_of_readAck h hcyc, if_neg hmore, shiftedLeft_clkEn]

end Sys2Proof.Machine
end

section
/-! Host requests (30_encoding.md R61): a request is what the sequencer's cycle makes of the bus with it on. -/

namespace Sys2Proof.Machine

open Host

theorem exec_wr (a : Addr) (d : BitVec 32) (m : BitVec 4) (c : BitVec 3) (s : State) :
    exec (.wr a d m c) s = .next (sequencerCycle (presentWrite a d m c s)) := rfl

theorem exec_wrIncr (a : Addr) (d : BitVec 32) (m : BitVec 4) (s : State) :
    exec (.wrIncr a d m) s = .next (sequencerCycle (presentWrite a d m ctiIncr s)) := rfl

theorem exec_rd (a : Addr) (c : BitVec 3) (s : State) :
    exec (.rd a c) s = .next (sequencerCycle (presentRead a c s)) := rfl

theorem exec_rdIncr (a : Addr) (s : State) :
    exec (.rdIncr a) s = .next (sequencerCycle (presentRead a ctiIncr s)) := rfl

/-- A request that already stands on the bus changes nothing there. -/
theorem requestOnBus_self {s : State} {we : Bool} (ht : trigger s = true) (hwe : s.inp.we = we) :
    { s with inp := { s.inp with cyc := true, stb := true, we := we } } = s := by
  obtain ⟨hcyc, hstb⟩ := trigger_iff.mp ht
  have hinp : { s.inp with cyc := true, stb := true, we := we } = s.inp := by
    cases h : s.inp
    simp_all
  rw [hinp]

theorem presentWrite_self {s : State} (ht : trigger s = true) (hwe : s.inp.we = true) :
    presentWrite s.inp.adr s.inp.datW s.inp.sel s.inp.cti s = s :=
  requestOnBus_self ht hwe

theorem presentRead_self {s : State} (ht : trigger s = true) (hwe : s.inp.we = false) :
    presentRead s.inp.adr s.inp.cti s = s :=
  requestOnBus_self ht hwe

/-- The three bytes of an address make the address. -/
theorem addr_of_bytes (a : Addr) :
    (0#3 ++ a.extractLsb' 16 5 : Byte).extractLsb' 0 5 ++ a.extractLsb' 8 8 ++ a.extractLsb' 0 8 = a := by
  rw [BitVec.extractLsb'_append_eq_right (a := 0#3) (b := a.extractLsb' 16 5)]
  simp only [BitVec.extractLsb'_append_extractLsb'_eq_extractLsb']
  exact BitVec.extractLsb'_eq_self

/-- The four bytes of a word make the word. -/
theorem word_of_bytes (w : BitVec 32) :
    w.extractLsb' 24 8 ++ w.extractLsb' 16 8 ++ w.extractLsb' 8 8 ++ w.extractLsb' 0 8 = w := by
  simp only [BitVec.extractLsb'_append_extractLsb'_eq_extractLsb']
  exact BitVec.extractLsb'_eq_self

/-- The image of a request decodes to the request. -/
theorem decodeHostReq_encodeHostReq (we : Bool) (cti : BitVec 3) (a : Addr) (d : BitVec 32) (m : BitVec 4) :
    decodeHostReq (encodeHostReq we cti a d m) = .ok (decodeRequest we cti a d m) := by
  have hkind : (0#4 ++ BitVec.ofBool we ++ cti : Byte).extractLsb' 4 4 = 0#4 := by
    cases we <;> revert cti <;> decide
  have hwe : (0#4 ++ BitVec.ofBool we ++ cti : Byte).getLsbD 3 = we := by
    cases we <;> revert cti <;> decide
  have hcti : (0#4 ++ BitVec.ofBool we ++ cti : Byte).extractLsb' 0 3 = cti := BitVec.extractLsb'_append_eq_right
  have hadr : (0#3 ++ a.extractLsb' 16 5 : Byte).extractLsb' 5 3 = 0#3 := BitVec.extractLsb'_append_eq_left
  have hsel : (0#4 ++ m : Byte).extractLsb' 4 4 = 0#4 := BitVec.extractLsb'_append_eq_left
  have hm : (0#4 ++ m : Byte).extractLsb' 0 4 = m := BitVec.extractLsb'_append_eq_right
  simp only [encodeHostReq, decodeHostReq, hkind, hwe, hcti, hadr, hsel, hm, addr_of_bytes, word_of_bytes, and_self,
    if_true]

/-- The request of a cycle with a trigger is the one its kind and operands name (R61). -/
theorem hostRequest_eq_some {s : State} {i : Instr} :
    hostRequest s = some i ↔
      trigger s = true ∧ decodeRequest s.inp.we s.inp.cti s.inp.adr s.inp.datW s.inp.sel = i := by
  have hdecode : decode .hostReq (requestWord s) =
      .ok (decodeRequest s.inp.we s.inp.cti s.inp.adr s.inp.datW s.inp.sel) := decodeHostReq_encodeHostReq _ _ _ _ _
  unfold hostRequest
  rw [hdecode]
  cases trigger s <;> simp [Except.toOption]

/-- The request on the bus is performed by the sequencer's cycle on the bus as it stands. -/
theorem exec_decodeRequest {s : State} (ht : trigger s = true) :
    exec (decodeRequest s.inp.we s.inp.cti s.inp.adr s.inp.datW s.inp.sel) s = .next (sequencerCycle s) := by
  unfold decodeRequest
  cases hwe : s.inp.we with
  | true =>
    by_cases hcti : s.inp.cti = ctiIncr
    · rw [if_pos rfl, if_pos hcti, exec_wrIncr, ← hcti, presentWrite_self ht hwe]
    · rw [if_pos rfl, if_neg hcti, exec_wr, presentWrite_self ht hwe]
  | false =>
    by_cases hcti : s.inp.cti = ctiIncr
    · rw [if_neg (by decide), if_pos hcti, exec_rdIncr, ← hcti, presentRead_self ht hwe]
    · rw [if_neg (by decide), if_neg hcti, exec_rd, presentRead_self ht hwe]

/-- Settles O10: the micro-operation of the state is the sequencer's cycle, on a bus that carries the request. -/
theorem requestsActThroughTheState : Obligations.RequestsActThroughTheState := by
  intro s a d m c
  refine ⟨⟨_, exec_wr a d m c s, exec_stateInstr (presentWrite a d m c s)⟩,
    ⟨_, exec_wrIncr a d m s, exec_stateInstr (presentWrite a d m 0b010#3 s)⟩,
    ⟨_, exec_rd a c s, exec_stateInstr (presentRead a c s)⟩,
    ⟨_, exec_rdIncr a s, exec_stateInstr (presentRead a 0b010#3 s)⟩, fun i h => ?_⟩
  obtain ⟨ht, rfl⟩ := hostRequest_eq_some.mp h
  rw [exec_decodeRequest ht, exec_stateInstr]

theorem exec_wr_eq_next {a : Addr} {d : BitVec 32} {m : BitVec 4} {c : BitVec 3} {s t : State}
    (h : sequencerCycle (presentWrite a d m c s) = t) : exec (.wr a d m c) s = .next t :=
  (exec_wr a d m c s).trans (congrArg Outcome.next h)

theorem exec_wrIncr_eq_next {a : Addr} {d : BitVec 32} {m : BitVec 4} {s t : State}
    (h : sequencerCycle (presentWrite a d m 0b010#3 s) = t) : exec (.wrIncr a d m) s = .next t :=
  (exec_wrIncr a d m s).trans (congrArg Outcome.next h)

/-- Settles O30: each pair of clauses is the sequencer's cycle in one state, with a write on the bus. -/
theorem writeRequestEffects : Obligations.WriteRequestEffects := by
  intro s a d m c hc
  refine ⟨fun h => ?idle, fun h => ?caSend, fun h => ?latencyWait3, fun h => ?readWrite, fun h => ?readAck⟩
  case idle =>
    exact ⟨exec_wr_eq_next (sequencerCycle_of_idle h rfl), exec_wrIncr_eq_next (sequencerCycle_of_idle h rfl)⟩
  case caSend =>
    exact ⟨exec_wr_eq_next (sequencerCycle_of_caSend h), exec_wrIncr_eq_next (sequencerCycle_of_caSend h)⟩
  case latencyWait3 =>
    exact ⟨exec_wr_eq_next (sequencerCycle_of_latencyWait3 h), exec_wrIncr_eq_next (sequencerCycle_of_latencyWait3 h)⟩
  case readWrite =>
    exact ⟨exec_wr_eq_next (sequencerCycle_of_lastWriteBeat h rfl hc),
      exec_wrIncr_eq_next (sequencerCycle_of_writeBeat h rfl)⟩
  case readAck =>
    exact ⟨exec_wr_eq_next (sequencerCycle_of_readAck_last h rfl hc),
      exec_wrIncr_eq_next (sequencerCycle_of_readAck_more h rfl rfl)⟩

end Sys2Proof.Machine
end

section
/-! A write beat on the lanes (20_memory.md R45, R46, R51). -/

namespace Sys2Proof.Machine

/-- Phase `p` of a word and a strobe word: byte `3-p` and bit `3-p` (30_encoding.md R70, R72). -/
theorem laneSamples_getElem?_eq_some {w : BitVec 32} {v : BitVec 4} {p : Nat} {x : LaneSample} :
    (laneSamples w v).toList[p]? = some x ↔
      p < 4 ∧ x = ⟨w.extractLsb' (8 * (3 - p)) 8, v.getLsbD (3 - p)⟩ := by
  match p with
  | 0 | 1 | 2 | 3 => simp [laneSamples, Quad.toList, eq_comm]
  | p + 4 => simp [Quad.toList]

/-- A write beat asks for byte `3-p` at offset `p`, where its select bit is 1, and for nothing else (R51). -/
theorem mem_writeAsks {ha p : Nat} {b : Byte} {w : BitVec 32} {sel : BitVec 4} :
    (2 * ha + p, b) ∈ writeAsks ha w sel ↔
      p < 4 ∧ sel.getLsbD (3 - p) = true ∧ b = w.extractLsb' (8 * (3 - p)) 8 := by
  rw [writeAsks]
  match p with
  | 0 | 1 | 2 | 3 => simp
  | p + 4 => simp

/-- After a write beat the word and the inverted select are offered to the lanes (R119, R96, R97). -/
theorem step_writeBeat {s : State} (hrst : s.inp.rst = false) (hst : s.st = .readWrite) (hwe : s.inp.we = true) :
    ∃ t, step s = .next t ∧ dqO t = s.inp.datW ∧ rwdsO t = ~~~s.inp.sel := by
  refine ⟨_, step_eq s, ?_⟩
  rw [finishCycle_of_rst_eq_false hrst, sequencerCycle_of_writeBeat (s := dlyCycle .clk (dlyCycle .io s)) hst hwe]
  exact ⟨BitVec.extractLsb'_append_eq_left, BitVec.extractLsb'_append_eq_left⟩

/-- Settles O41: the lanes carry the word with the inverted select as strobes, and the beat asks where the select is 1. -/
theorem writeBeatLanesAskTheDevice : Obligations.WriteBeatLanesAskTheDevice := by
  intro s ha hrst hst hwe
  obtain ⟨t, hstep, hdq, hrwds⟩ := step_writeBeat hrst hst hwe
  refine ⟨t, hstep, fun p x hx => ?_⟩
  rw [txSamples, hdq, hrwds, laneSamples_getElem?_eq_some] at hx
  obtain ⟨hp, rfl⟩ := hx
  have hbit : 3 - p < 4 := by omega
  refine ⟨rfl, ?_⟩
  simp [mem_writeAsks, hp, hbit]

end Sys2Proof.Machine
end

section
/-! The sampling points of the host fields (20_memory.md R54): inputs that agree in the fields the state of the cycle reads,
and in what is no host field, give the same step. -/

namespace Sys2Proof.Machine

/-- The inputs `j` are as good as `i` in state `st`: they agree in each host field where R54 has it read, and in reset, pin
samples and delay records always. -/
structure SampledAlike (st : SeqState) (i j : Inputs) : Prop where
  rst : j.rst = i.rst := by rfl
  rx : j.rx = i.rx := by rfl
  dlyIo : j.dlyIo = i.dlyIo := by rfl
  dlyClk : j.dlyClk = i.dlyClk := by rfl
  cyc : st = .idle ∨ st = .readAck → j.cyc = i.cyc := by intros; rfl
  stb : st = .idle → j.stb = i.stb := by intros; rfl
  we : st = .caSend ∨ st = .latencyWait3 ∨ st = .readWrite → j.we = i.we := by intros; rfl
  adr : st = .caSend → j.adr = i.adr := by intros; rfl
  datW : st = .readWrite → i.we = true → j.datW = i.datW := by intros; rfl
  sel : st = .readWrite → i.we = true → j.sel = i.sel := by intros; rfl
  cti : st = .readWrite ∨ st = .readAck → j.cti = i.cti := by intros; rfl

/-- The state with other inputs in this cycle. -/
def State.onInputs (s : State) (j : Inputs) : State := { s with inp := j }

theorem dqI_onInputs {s : State} {j : Inputs} (h : j.rx = s.inp.rx) : dqI (s.onInputs j) = dqI s := by
  simp only [dqI, rxWord, State.onInputs, h]

theorem rwdsI_onInputs {s : State} {j : Inputs} (h : j.rx = s.inp.rx) : rwdsI (s.onInputs j) = rwdsI s := by
  simp only [rwdsI, rxWord, State.onInputs, h]

theorem shiftAll_onInputs {s : State} {j : Inputs} (h : j.rx = s.inp.rx) :
    shiftAll (s.onInputs j) = (shiftAll s).onInputs j := by
  rw [shiftAll, dqI_onInputs h, rwdsI_onInputs h]
  rfl

theorem readWriteCycle_onInputs {s : State} {j : Inputs} (hst : s.st = .readWrite) (h : SampledAlike s.st s.inp j) :
    readWriteCycle (s.onInputs j) = (readWriteCycle s).onInputs j := by
  have hj : (s.onInputs j).inp.we = s.inp.we := h.we (.inr (.inr hst))
  unfold readWriteCycle
  rw [hj]
  cases hwe : s.inp.we with
  | true =>
    have hinc : incrementing (s.onInputs j) = incrementing s := congrArg (· == ctiIncr) (h.cti (.inl hst))
    have hdat : (s.onInputs j).inp.datW = s.inp.datW := h.datW hst hwe
    have hsel : (s.onInputs j).inp.sel = s.inp.sel := h.sel hst hwe
    simp only [if_true, writeBeatCycle, shiftAll_onInputs h.rx, hdat, hsel, hinc]
    rfl
  | false =>
    simp only [Bool.false_eq_true, if_false, shiftAll_onInputs h.rx]
    rfl

theorem strobeCycle_onInputs {s : State} {j : Inputs} (hrx : j.rx = s.inp.rx) (hcti : j.cti = s.inp.cti) :
    strobeCycle (s.onInputs j) = (strobeCycle s).onInputs j := by
  have hinc : incrementing (s.onInputs j) = incrementing s := congrArg (· == ctiIncr) hcti
  simp only [strobeCycle, vstb_eq, rwdsI_onInputs hrx, hinc, shiftAll_onInputs hrx]
  rfl

theorem readAckCycle_onInputs {s : State} {j : Inputs} (hst : s.st = .readAck) (h : SampledAlike s.st s.inp j) :
    readAckCycle (s.onInputs j) = (readAckCycle s).onInputs j := by
  have hcyc : (s.onInputs j).inp.cyc = s.inp.cyc := h.cyc (.inr hst)
  have hcause : abortCause (s.onInputs j) = abortCause s := by
    rw [abortCause, hcyc]
    rfl
  simp only [readAckCycle, hcause, strobeCycle_onInputs h.rx (h.cti (.inr hst))]
  cases abortCause s <;> rfl

/-- The sequencer's cycle reads the host fields at their sampling points only, and changes none. -/
theorem sequencerCycle_onInputs {s : State} {j : Inputs} (h : SampledAlike s.st s.inp j) :
    sequencerCycle (s.onInputs j) = (sequencerCycle s).onInputs j := by
  have hshift := shiftAll_onInputs h.rx
  have hst : (s.onInputs j).st = s.st := rfl
  unfold sequencerCycle
  rw [hst]
  cases hs : s.st with
  | idle =>
    have htrigger : trigger (s.onInputs j) = trigger s := congrArg₂ (· && ·) (h.cyc (.inl hs)) (h.stb hs)
    simp only [idleCycle, hshift, htrigger]
    rfl
  | caSend =>
    have hword : commandWord (s.onInputs j) = commandWord s := congrArg₂ caWord (h.we (.inl hs)) (h.adr hs)
    simp only [caSendCycle, hshift, hword]
    rfl
  | latencyWait3 =>
    have hwe : (s.onInputs j).inp.we = s.inp.we := h.we (.inr (.inl hs))
    simp only [latencyWait3Cycle, hshift, hwe]
    rfl
  | readWrite => exact readWriteCycle_onInputs hs h
  | readAck => exact readAckCycle_onInputs hs h
  | caWait => simp only [caWaitCycle, hshift]; rfl
  | latencyWait => simp only [latencyWaitCycle, hshift]; rfl
  | clkOff => simp only [clkOffCycle, hshift]; rfl
  | cleanup => simp only [cleanupCycle, hshift]; rfl
  | holdWait => simp only [holdWaitCycle, hshift]; rfl
  | _ => simp only [ladderCycle, hshift]; rfl

theorem dlyCycle_onInputs (g : DlyGroup) {s : State} {j : Inputs} (hio : j.dlyIo = s.inp.dlyIo)
    (hclk : j.dlyClk = s.inp.dlyClk) : dlyCycle g (s.onInputs j) = (dlyCycle g s).onInputs j := by
  have hrecord : dlyRecord g (s.onInputs j) = dlyRecord g s := by
    cases g with
    | io => exact hio
    | clk => exact hclk
  rw [dlyCycle, hrecord]
  cases g <;> rfl

/-- The end of a cycle reads reset and the pin samples, and the next cycle takes inputs of its own. -/
theorem finishCycle_onInputs {s : State} {j : Inputs} (hrst : j.rst = s.inp.rst) (hrx : j.rx = s.inp.rx) (p : State) :
    finishCycle (s.onInputs j) (p.onInputs j) = finishCycle s p := by
  have hrst' : (s.onInputs j).inp.rst = s.inp.rst := hrst
  have hrx' : (s.onInputs j).inp.rx = s.inp.rx := hrx
  unfold finishCycle
  rw [advancePhy, hrst', hrx']
  cases s.inp.rst <;> rfl

theorem step_onInputs {s : State} {j : Inputs} (h : SampledAlike s.st s.inp j) : step { s with inp := j } = step s := by
  have hio := dlyCycle_onInputs .io h.dlyIo h.dlyClk
  have hclk := dlyCycle_onInputs .clk (s := dlyCycle .io s) h.dlyIo h.dlyClk
  have hseq := sequencerCycle_onInputs (s := dlyCycle .clk (dlyCycle .io s)) h
  calc step (s.onInputs j)
      = .next (finishCycle (s.onInputs j) (sequencerCycle (dlyCycle .clk (dlyCycle .io (s.onInputs j))))) := step_eq _
    _ = .next (finishCycle s (sequencerCycle (dlyCycle .clk (dlyCycle .io s)))) := by
        rw [hio, hclk, hseq, finishCycle_onInputs h.rst h.rx]
    _ = step s := (step_eq s).symm

/-- Settles O45: in each clause the changed field is not one that the state reads. -/
theorem fieldsAreReadAtTheirSamplingPoints : Obligations.FieldsAreReadAtTheirSamplingPoints := by
  intro s
  refine ⟨fun a h => ?adr, fun d m h => ?data, fun b h => ?stb, fun b hidle hack => ?cyc, fun c hrw hack => ?cti,
    fun b hca hlat hrw => ?we, fun d m h => ?dataOfRead⟩
  case adr => exact step_onInputs { adr := fun hst => absurd hst h }
  case data => exact step_onInputs { datW := fun hst => absurd hst h, sel := fun hst => absurd hst h }
  case stb => exact step_onInputs { stb := fun hst => absurd hst h }
  case cyc => exact step_onInputs { cyc := fun hst => (hst.elim hidle hack).elim }
  case cti => exact step_onInputs { cti := fun hst => (hst.elim hrw hack).elim }
  case we => exact step_onInputs { we := fun hst => (hst.elim hca fun hst => hst.elim hlat hrw).elim }
  case dataOfRead =>
    exact step_onInputs { datW := fun _ hwe => by simp [h] at hwe, sel := fun _ hwe => by simp [h] at hwe }

end Sys2Proof.Machine
end

section
/-! Words made of fields (30_encoding.md sections 2 to 5): each word is tied to its fields by an equivalence, which serves the
encoder in one direction and the decoder in the other. -/

namespace Sys2Proof.Machine

/-- A field of one bit is the bit. -/
theorem extractLsb'_one_eq_ofBool {w : Nat} (x : BitVec w) (i : Nat) :
    x.extractLsb' i 1 = BitVec.ofBool (x.getLsbD i) := by
  apply BitVec.eq_of_getLsbD_eq
  intro j hj
  obtain rfl : j = 0 := by omega
  simp

/-- The six bytes of a word make the word. -/
theorem bytes48_eq_iff {w : BitVec 48} {b0 b1 b2 b3 b4 b5 : Byte} :
    bytes48 w = [b0, b1, b2, b3, b4, b5] ↔ w = b5 ++ b4 ++ b3 ++ b2 ++ b1 ++ b0 := by
  constructor
  · intro h
    simp only [bytes48, List.cons.injEq, and_true] at h
    obtain ⟨rfl, rfl, rfl, rfl, rfl, rfl⟩ := h
    simp only [BitVec.extractLsb'_append_extractLsb'_eq_extractLsb']
    exact BitVec.extractLsb'_eq_self.symm
  · rintro rfl
    simp (disch := decide) only [bytes48, BitVec.extractLsb'_append_eq_of_add_le, BitVec.extractLsb'_append_eq_of_le,
      Nat.reduceSub, BitVec.extractLsb'_eq_self]

/-- The four bytes of a word make the word. -/
theorem bytes32_eq_iff {w : BitVec 32} {b0 b1 b2 b3 : Byte} :
    bytes32 w = [b0, b1, b2, b3] ↔ w = b3 ++ b2 ++ b1 ++ b0 := by
  constructor
  · intro h
    simp only [bytes32, List.cons.injEq, and_true] at h
    obtain ⟨rfl, rfl, rfl, rfl⟩ := h
    exact (word_of_bytes w).symm
  · rintro rfl
    simp (disch := decide) only [bytes32, BitVec.extractLsb'_append_eq_of_add_le, BitVec.extractLsb'_append_eq_of_le,
      Nat.reduceSub, BitVec.extractLsb'_eq_self]

/-- The fields of a command word (R63 to R65), all 48 bits. -/
theorem caWord_fields (we : Bool) (a : Addr) :
    (caWord we a).getLsbD 47 = !we ∧ (caWord we a).getLsbD 46 = false ∧ (caWord we a).getLsbD 45 = true ∧
      (caWord we a).extractLsb' 35 10 = 0#10 ∧ (caWord we a).extractLsb' 16 19 = a.extractLsb' 2 19 ∧
      (caWord we a).extractLsb' 3 13 = 0#13 ∧ (caWord we a).extractLsb' 1 2 = a.extractLsb' 0 2 ∧
      (caWord we a).getLsbD 0 = false := by
  simp (disch := decide) only [caWord, BitVec.getLsbD_append, BitVec.extractLsb'_append_eq_of_add_le,
    BitVec.extractLsb'_append_eq_of_le, Nat.reduceSub, Nat.reduceLT, if_true, if_false, BitVec.extractLsb'_eq_self]
  simp

/-- A word whose fixed bits are those of R65 is the command word of the direction and the address in it. -/
theorem caWord_of_fields {ca : BitVec 48} (h46 : ca.getLsbD 46 = false) (h45 : ca.getLsbD 45 = true)
    (h35 : ca.extractLsb' 35 10 = 0#10) (h3 : ca.extractLsb' 3 13 = 0#13) (h0 : ca.getLsbD 0 = false) :
    caWord (!ca.getLsbD 47) (ca.extractLsb' 16 19 ++ ca.extractLsb' 1 2) = ca := by
  have hparts : ca.extractLsb' 47 1 ++ ca.extractLsb' 46 1 ++ ca.extractLsb' 45 1 ++ ca.extractLsb' 35 10 ++
      ca.extractLsb' 16 19 ++ ca.extractLsb' 3 13 ++ ca.extractLsb' 1 2 ++ ca.extractLsb' 0 1 = ca := by
    simp only [BitVec.extractLsb'_append_extractLsb'_eq_extractLsb']
    exact BitVec.extractLsb'_eq_self
  have hhigh : (ca.extractLsb' 16 19 ++ ca.extractLsb' 1 2).extractLsb' 2 19 = ca.extractLsb' 16 19 :=
    BitVec.extractLsb'_append_eq_left
  have hlow : (ca.extractLsb' 16 19 ++ ca.extractLsb' 1 2).extractLsb' 0 2 = ca.extractLsb' 1 2 :=
    BitVec.extractLsb'_append_eq_right
  refine Eq.trans ?_ hparts
  simp only [caWord, hhigh, hlow, extractLsb'_one_eq_ofBool, h46, h45, h35, h3, h0, Bool.not_not]
  rfl

/-- The two parts of a mask load (R68). -/
theorem eq_maskByte_iff {b : Byte} {m : BitVec 4} :
    b = m ++ 0#4 ↔ b.extractLsb' 4 4 = m ∧ b.extractLsb' 0 4 = 0#4 := by
  constructor
  · rintro rfl
    exact ⟨BitVec.extractLsb'_append_eq_left, BitVec.extractLsb'_append_eq_right⟩
  · rintro ⟨rfl, hlow⟩
    rw [← hlow]
    exact (BitVec.extractLsb'_append_extractLsb' (w := 4) (len := 4) (x := b)).symm

/-- The bits of a delay-control record (R75). -/
theorem eq_dlyByte_iff {b : Byte} {l m d p : Bool} :
    b = 0#4 ++ BitVec.ofBool l ++ BitVec.ofBool m ++ BitVec.ofBool d ++ BitVec.ofBool p ↔
      b.extractLsb' 4 4 = 0#4 ∧ b.getLsbD 3 = l ∧ b.getLsbD 2 = m ∧ b.getLsbD 1 = d ∧ b.getLsbD 0 = p := by
  constructor
  · rintro rfl
    simp (disch := decide) only [BitVec.getLsbD_append, BitVec.extractLsb'_append_eq_of_le, Nat.reduceSub, Nat.reduceLT,
      if_true, if_false, BitVec.extractLsb'_eq_self]
    simp
  · rintro ⟨hfixed, rfl, rfl, rfl, rfl⟩
    rw [← hfixed]
    simp only [← extractLsb'_one_eq_ofBool, BitVec.extractLsb'_append_extractLsb'_eq_extractLsb']
    exact BitVec.extractLsb'_eq_self.symm

/-- The group byte of a delay operation (log entry 4). -/
theorem eq_groupByte_iff {b : Byte} {c : Bool} :
    b = 0#7 ++ BitVec.ofBool c ↔ b.extractLsb' 1 7 = 0#7 ∧ b.getLsbD 0 = c := by
  constructor
  · rintro rfl
    exact ⟨BitVec.extractLsb'_append_eq_left, BitVec.getLsbD_append.trans (by simp)⟩
  · rintro ⟨hfixed, rfl⟩
    rw [← hfixed, ← extractLsb'_one_eq_ofBool]
    exact (BitVec.extractLsb'_append_extractLsb' (w := 7) (len := 1) (x := b)).symm

theorem encodeDlyCtl_eq (g : DlyGroup) (l m d p : Bool) :
    encodeDlyCtl g l m d p =
      [0#4 ++ BitVec.ofBool l ++ BitVec.ofBool m ++ BitVec.ofBool d ++ BitVec.ofBool p,
        0#7 ++ BitVec.ofBool (g == .clk)] := by
  cases g <;> rfl

end Sys2Proof.Machine
end

section
/-! The decoder, format by format (30_encoding.md R63 to R68, R75, R76, R80): the words a format accepts are the words of its
instructions. -/

namespace Sys2Proof.Machine

theorem decodeCaWord_eq_ok {ca : BitVec 48} {i : Instr} :
    decodeCaWord ca = .ok i ↔ ∃ we a, ca = caWord we a ∧ i = if we then .caWr a else .caRd a := by
  constructor
  · intro h
    unfold decodeCaWord at h
    split at h
    case isTrue hfixed =>
      obtain ⟨h46, h45, h35, h3, h0⟩ := hfixed
      cases h
      refine ⟨_, _, (caWord_of_fields h46 h45 h35 h3 h0).symm, ?_⟩
      cases ca.getLsbD 47 <;> rfl
    case isFalse => cases h
  · rintro ⟨we, a, rfl, rfl⟩
    obtain ⟨hwe, h46, h45, h35, hhigh, h3, hlow, h0⟩ := caWord_fields we a
    have hadr : a.extractLsb' 2 19 ++ a.extractLsb' 0 2 = a :=
      BitVec.extractLsb'_append_extractLsb' (w := 19) (len := 2) (x := a)
    simp only [decodeCaWord, hwe, h46, h45, h35, hhigh, h3, hlow, h0, hadr]
    cases we <;> rfl

theorem decodeCa48_eq_ok {bs : List Byte} {i : Instr} :
    decodeCa48 bs = .ok i ↔ ∃ we a, bs = bytes48 (caWord we a) ∧ i = if we then .caWr a else .caRd a := by
  unfold decodeCa48
  split
  next b0 b1 b2 b3 b4 b5 =>
    rw [decodeCaWord_eq_ok]
    simp only [eq_comm (a := [b0, b1, b2, b3, b4, b5]), bytes48_eq_iff, eq_comm (b := caWord _ _)]
  next hlength =>
    constructor
    · intro h
      cases h
    · rintro ⟨we, a, rfl, -⟩
      exact absurd rfl (hlength _ _ _ _ _ _)

theorem decodeSrloadCa_eq_ok {bs : List Byte} {i : Instr} :
    decodeSrloadCa bs = .ok i ↔ ∃ ca, bs = [0#8, 0#8] ++ bytes48 ca ∧ i = .srloadCa ca := by
  constructor
  · intro h
    unfold decodeSrloadCa at h
    split at h
    next =>
      split at h
      case isTrue hfixed =>
        obtain ⟨rfl, rfl⟩ := hfixed
        cases h
        exact ⟨_, congrArg ([0#8, 0#8] ++ ·) (bytes48_eq_iff.mpr rfl).symm, rfl⟩
      case isFalse => cases h
    next => cases h
  · rintro ⟨ca, rfl, rfl⟩
    exact congrArg (fun w => Except.ok (Instr.srloadCa w)) (bytes48_eq_iff.mp rfl).symm

theorem decodeSrloadWd_eq_ok {bs : List Byte} {i : Instr} :
    decodeSrloadWd bs = .ok i ↔ ∃ d, bs = [0#8, 0#8, 0#8, 0#8] ++ bytes32 d ∧ i = .srloadWd d := by
  constructor
  · intro h
    unfold decodeSrloadWd at h
    split at h
    next =>
      split at h
      case isTrue hfixed =>
        obtain ⟨rfl, rfl, rfl, rfl⟩ := hfixed
        cases h
        exact ⟨_, congrArg ([0#8, 0#8, 0#8, 0#8] ++ ·) (bytes32_eq_iff.mpr rfl).symm, rfl⟩
      case isFalse => cases h
    next => cases h
  · rintro ⟨d, rfl, rfl⟩
    exact congrArg (fun w => Except.ok (Instr.srloadWd w)) (bytes32_eq_iff.mp rfl).symm

theorem decodeSrloadWm_eq_ok {bs : List Byte} {i : Instr} :
    decodeSrloadWm bs = .ok i ↔ ∃ m, bs = [m ++ 0#4] ∧ i = .srloadWm m := by
  constructor
  · intro h
    unfold decodeSrloadWm at h
    split at h
    next b =>
      split at h
      case isTrue hfixed =>
        cases h
        exact ⟨_, congrArg ([·]) (eq_maskByte_iff.mpr ⟨rfl, hfixed⟩), rfl⟩
      case isFalse => cases h
    next => cases h
  · rintro ⟨m, rfl, rfl⟩
    obtain ⟨hmask, hfixed⟩ := eq_maskByte_iff.mp (Eq.refl (m ++ 0#4))
    simp only [decodeSrloadWm, hmask, hfixed, if_true]

theorem decodeDlyCtl_eq_ok {bs : List Byte} {i : Instr} :
    decodeDlyCtl bs = .ok i ↔ ∃ g l m d p, bs = encodeDlyCtl g l m d p ∧ i = decodeDlyOp g l m d p := by
  constructor
  · intro h
    unfold decodeDlyCtl at h
    split at h
    next b c =>
      split at h
      case isTrue hfixed =>
        obtain ⟨hrecord, hgroup⟩ := hfixed
        cases h
        refine ⟨_, _, _, _, _, ?_, rfl⟩
        rw [encodeDlyCtl_eq, ← eq_dlyByte_iff.mpr ⟨hrecord, rfl, rfl, rfl, rfl⟩, ← eq_groupByte_iff.mpr ⟨hgroup, ?_⟩]
        cases c.getLsbD 0 <;> rfl
      case isFalse => cases h
    next => cases h
  · rintro ⟨g, l, m, d, p, rfl, rfl⟩
    obtain ⟨hrecord, hl, hm, hd, hp⟩ := eq_dlyByte_iff.mp (Eq.refl (0#4 ++ BitVec.ofBool l ++ BitVec.ofBool m ++
      BitVec.ofBool d ++ BitVec.ofBool p))
    obtain ⟨hgroup, hg⟩ := eq_groupByte_iff.mp (Eq.refl (0#7 ++ BitVec.ofBool (g == .clk)))
    simp only [encodeDlyCtl_eq, decodeDlyCtl, hrecord, hl, hm, hd, hp, hgroup, hg]
    cases g <;> rfl

/-- The three things a word's meaning tells: where it stands, that it is an instruction of the table, and which word it is. -/
def StandsAs (f : Format) (bs : List Byte) (i : Instr) : Prop := i.format = f ∧ i.wellFormed = true ∧ encode i = bs

theorem standsAs_of_decodeStateCode {n : Nat} {i : Instr} (h : decodeStateCode n = .ok i) :
    StandsAs .state [BitVec.ofNat 8 n] i := by
  unfold decodeStateCode at h
  split at h <;> cases h <;> exact ⟨rfl, rfl, rfl⟩

theorem standsAs_of_decodeState {bs : List Byte} {i : Instr} (h : decodeState bs = .ok i) : StandsAs .state bs i := by
  unfold decodeState at h
  split at h
  next b =>
    have hcode := standsAs_of_decodeStateCode h
    rwa [BitVec.ofNat_toNat, BitVec.setWidth_eq] at hcode
  next => cases h

/-- `loadn` = 1 and no rising edge of `move` is a hold (R75). -/
theorem decodeDlyOp_hold {m p : Bool} (h : (m && !p) = false) (g : DlyGroup) (d : Bool) :
    decodeDlyOp g true m d p = .dlyHold g m d p := by
  simp [decodeDlyOp, h]

/-- The operation a record stands for has the record as its word: a step is a rising edge of `move` (R75). -/
theorem standsAs_decodeDlyOp (g : DlyGroup) (l m d p : Bool) :
    StandsAs .dlyCtl (encodeDlyCtl g l m d p) (decodeDlyOp g l m d p) := by
  cases l with
  | false => exact ⟨rfl, rfl, rfl⟩
  | true =>
    cases hedge : m && !p with
    | true =>
      obtain ⟨rfl, rfl⟩ : m = true ∧ p = false := by simpa using hedge
      cases d <;> exact ⟨rfl, rfl, rfl⟩
    | false =>
      rw [decodeDlyOp_hold hedge]
      exact ⟨rfl, congrArg (!·) hedge, rfl⟩

/-- Settles O1: each instruction's word is one that its format accepts, for that instruction. -/
theorem decodeEncodeAgree : Obligations.DecodeEncodeAgree := by
  intro i hwf
  cases i with
  | wrIncr a d m => exact decodeHostReq_encodeHostReq true ctiIncr a d m
  | rdIncr a => exact decodeHostReq_encodeHostReq false ctiIncr a 0#32 0#4
  | wr a d m c =>
    have hc : c ≠ ctiIncr := bne_iff_ne.mp hwf
    exact (decodeHostReq_encodeHostReq true c a d m).trans (congrArg Except.ok (if_neg hc))
  | rd a c =>
    have hc : c ≠ ctiIncr := bne_iff_ne.mp hwf
    exact (decodeHostReq_encodeHostReq false c a 0#32 0#4).trans (congrArg Except.ok (if_neg hc))
  | caRd a => exact decodeCa48_eq_ok.mpr ⟨false, a, rfl, rfl⟩
  | caWr a => exact decodeCa48_eq_ok.mpr ⟨true, a, rfl, rfl⟩
  | srloadCa ca => exact decodeSrloadCa_eq_ok.mpr ⟨ca, rfl, rfl⟩
  | srloadWd d => exact decodeSrloadWd_eq_ok.mpr ⟨d, rfl, rfl⟩
  | srloadWm m => exact decodeSrloadWm_eq_ok.mpr ⟨m, rfl, rfl⟩
  | dlyLoad g m d p => exact decodeDlyCtl_eq_ok.mpr ⟨g, false, m, d, p, rfl, rfl⟩
  | dlyUp g => exact decodeDlyCtl_eq_ok.mpr ⟨g, true, true, false, false, rfl, rfl⟩
  | dlyDown g => exact decodeDlyCtl_eq_ok.mpr ⟨g, true, true, true, false, rfl, rfl⟩
  | dlyHold g m d p =>
    have hedge : (m && !p) = false := (Bool.not_eq_true' _).mp hwf
    exact decodeDlyCtl_eq_ok.mpr ⟨g, true, m, d, p, rfl, (decodeDlyOp_hold hedge g d).symm⟩
  | _ => rfl

/-- Settles O2: format by format, a word that is accepted is the word of its instruction. -/
theorem encodeDecodeAgree : Obligations.EncodeDecodeAgree := by
  intro f bs i hf h
  cases f with
  | hostReq => exact absurd rfl hf
  | state => exact standsAs_of_decodeState h
  | ca48 =>
    obtain ⟨we, a, rfl, rfl⟩ := decodeCa48_eq_ok.mp h
    cases we <;> exact ⟨rfl, rfl, rfl⟩
  | srloadCa =>
    obtain ⟨ca, rfl, rfl⟩ := decodeSrloadCa_eq_ok.mp h
    exact ⟨rfl, rfl, rfl⟩
  | srloadWd =>
    obtain ⟨d, rfl, rfl⟩ := decodeSrloadWd_eq_ok.mp h
    exact ⟨rfl, rfl, rfl⟩
  | srloadWm =>
    obtain ⟨m, rfl, rfl⟩ := decodeSrloadWm_eq_ok.mp h
    exact ⟨rfl, rfl, rfl⟩
  | dlyCtl =>
    obtain ⟨g, l, m, d, p, rfl, rfl⟩ := decodeDlyCtl_eq_ok.mp h
    exact standsAs_decodeDlyOp g l m d p

end Sys2Proof.Machine
end

section
/-! The command word as a number and by its fields (30_encoding.md R64, R65), the requests on the bus (R61, R62), and the
words that are written out. -/

namespace Sys2Proof.Machine

/-- A concatenation as a number. -/
theorem toNat_append_eq_add {m n : Nat} (x : BitVec m) (y : BitVec n) :
    (x ++ y).toNat = x.toNat * 2 ^ n + y.toNat := by
  rw [BitVec.toNat_append, ← Nat.shiftLeft_add_eq_or_of_lt y.isLt, Nat.shiftLeft_eq]

/-- Bits 47:45 of the command word. -/
theorem caWord_topBits (we : Bool) (a : Addr) :
    (caWord we a).extractLsb' 45 3 = BitVec.ofBool (!we) ++ 0#1 ++ 1#1 := by
  simp (disch := decide) only [caWord, BitVec.extractLsb'_append_eq_of_le, Nat.reduceSub]
  exact BitVec.extractLsb'_eq_self

/-- The low bits of a concatenation that reach into its upper part. -/
theorem extractLsb'_zero_append {m n : Nat} (x : BitVec m) (y : BitVec n) (k : Nat) :
    (x ++ y).extractLsb' 0 (k + n) = x.extractLsb' 0 k ++ y := by
  have hhigh : (x ++ y).extractLsb' n k = x.extractLsb' 0 k := by
    rw [BitVec.extractLsb'_append_eq_of_le (le_refl n), Nat.sub_self]
  have hlow : (x ++ y).extractLsb' 0 n = y := BitVec.extractLsb'_append_eq_right
  rw [← BitVec.extractLsb'_append_extractLsb'_eq_extractLsb' (Nat.zero_add n).symm, hhigh, hlow]

/-- Bits 2:0 of the command word. -/
theorem caWord_lowBits (we : Bool) (a : Addr) : (caWord we a).extractLsb' 0 3 = a.extractLsb' 0 2 ++ 0#1 :=
  (extractLsb'_zero_append _ 0#1 2).trans (congrArg (· ++ 0#1) BitVec.extractLsb'_append_eq_right)

/-- Settles O4: the number is the sum of the fields at their places. -/
theorem commandWordAsNumber : Obligations.CommandWordAsNumber := by
  intro we a
  rw [caWord_topBits]
  constructor
  · simp only [caWord, toNat_append_eq_add]
    cases we <;> simp <;> omega
  · cases we <;> rfl

/-- Settles O5: field by field, in the command word and in the half-word address. -/
theorem commandWordCarriesHalfWordAddress : Obligations.CommandWordCarriesHalfWordAddress := by
  intro we a
  obtain ⟨-, -, -, -, hhigh, -, hlow, h0⟩ := caWord_fields we a
  have htwice : (halfWord a).toNat = 2 * a.toNat := by
    rw [halfWord, toNat_append_eq_add]
    simp [Nat.mul_comm]
  have hlowHalf : (halfWord a).extractLsb' 0 3 = a.extractLsb' 0 2 ++ 0#1 := extractLsb'_zero_append a 0#1 2
  have hhighHalf : (halfWord a).extractLsb' 3 19 = a.extractLsb' 2 19 := BitVec.extractLsb'_append_eq_of_le (by decide)
  exact ⟨hhigh, hlow, h0, htwice, by rw [caWord_lowBits, hlowHalf], by rw [hhigh, hhighHalf]⟩

/-- Settles O6: the word on the bus decodes to the request of its kind, and there is one only on a trigger. -/
theorem hostRequestKinds : Obligations.HostRequestKinds := by
  intro s
  by_cases h : trigger s = true
  · rw [if_pos (trigger_iff.mp h)]
    exact hostRequest_eq_some.mpr ⟨h, rfl⟩
  · rw [if_neg (mt trigger_iff.mpr h)]
    exact if_neg h

/-- Settles O3: each written-out word evaluates to what it stands for. -/
theorem specWordsDecode : Obligations.SpecWordsDecode := by
  unfold Obligations.SpecWordsDecode
  decide

end Sys2Proof.Machine
end

section
/-! What a step runs (41_sequencer.md R139), and two kinds of actions: READ-WRITE (R119) and the loads of the output
registers (30_encoding.md R65 to R68). -/

namespace Sys2Proof.Machine

open Host

/-- Settles O7: the words of a step decode, so it executes their instructions and ends the cycle. -/
theorem stepRunsDecoded : Obligations.StepRunsDecoded := by
  intro s i dio dclk hi hio hclk
  simp only [step, hi, hio, hclk, execCycle]

/-- Settles O8: a step always answers the end of its cycle. -/
theorem stepNeverStops : Obligations.StepNeverStops := fun s => ⟨_, step_eq s⟩

/-- READ-WRITE (R119): a beat of a write, or the way into a read. -/
theorem readWriteCycle_eq (s : State) :
    readWriteCycle s =
      if s.inp.we = true then
        { shiftedLeft s with
          srOut := s.inp.datW ++ 0#32
          srRwdsOut := ~~~s.inp.sel ++ 0#4
          st := if s.inp.cti = 0b010#3 then .readWrite else .clkOff }
      else { shiftedLeft s with st := .readAck } := by
  simp only [readWriteCycle, writeBeatCycle, loadMask, loadData, incrementing_iff, shiftAll_eq_shiftedLeft]

/-- Settles O24: executing READ-WRITE is its cycle, in any state. -/
theorem readWriteEffects : Obligations.ReadWriteEffects := fun s => congrArg Outcome.next (readWriteCycle_eq s)

/-- A word in the upper bits of a register, zeros below. -/
theorem append_zero_eq_shiftLeft {m n : Nat} (x : BitVec m) : x ++ 0#n = x.setWidth (m + n) <<< n := by
  have h := BitVec.setWidth_append_eq_shiftLeft_setWidth_or (w'' := m + n) (b := x) (b' := 0#n)
  simpa using h

/-- Settles O28: each action is one load, a word above zeros. -/
theorem loadEffects : Obligations.LoadEffects := by
  intro s a c d m
  have hcommand (w : BitVec 48) : loadCommand w s = { s with srOut := w.setWidth 64 <<< 16 } := by
    rw [loadCommand, append_zero_eq_shiftLeft]
  have hdata : loadData d s = { s with srOut := d.setWidth 64 <<< 32 } := by
    rw [loadData, append_zero_eq_shiftLeft]
  have hmask : loadMask m s = { s with srRwdsOut := m.setWidth 8 <<< 4 } := by
    rw [loadMask, append_zero_eq_shiftLeft]
  exact ⟨congrArg Outcome.next (hcommand _), congrArg Outcome.next (hcommand _), congrArg Outcome.next (hcommand c),
    congrArg Outcome.next hdata, congrArg Outcome.next hmask⟩

end Sys2Proof.Machine
end

section
/-! The lane formats (30_encoding.md R70 to R72) and the read window (R73, 42_transactions.md R161). -/

namespace Sys2Proof.Machine

/-- Four samples are those of exactly one data and strobe word (R70 to R72). -/
theorem laneSamples_eq_iff {w : BitVec 32} {v : BitVec 4} {q : Quad LaneSample} :
    laneSamples w v = q ↔ w = packDq q ∧ v = packRwds q := by
  constructor
  · rintro rfl
    refine ⟨(word_of_bytes w).symm, ?_⟩
    simp only [packRwds, laneSamples, ← extractLsb'_one_eq_ofBool, BitVec.extractLsb'_append_extractLsb'_eq_extractLsb']
    exact BitVec.extractLsb'_eq_self.symm
  · rintro ⟨rfl, rfl⟩
    simp (disch := decide) only [laneSamples, packDq, packRwds, BitVec.getLsbD_append, BitVec.extractLsb'_append_eq_of_add_le,
      BitVec.extractLsb'_append_eq_of_le, Nat.reduceSub, Nat.reduceLT, if_true, if_false, BitVec.extractLsb'_eq_self]
    simp

/-- Settles O35: the two directions of `laneSamples_eq_iff`. -/
theorem laneFormatsInvert : Obligations.LaneFormatsInvert := by
  refine ⟨fun w v => ?_, fun q => laneSamples_eq_iff.mpr ⟨rfl, rfl⟩⟩
  obtain ⟨hw, hv⟩ := laneSamples_eq_iff.mp (Eq.refl (laneSamples w v))
  exact ⟨hw.symm, hv.symm⟩

/-- Settles O34: phase `p` carries byte `3-p` of the word, lane `j` bit `j` of the byte. -/
theorem laneOrder : Obligations.LaneOrder := by
  intro w v p j hp hj
  refine ⟨_, laneSamples_getElem?_eq_some.mpr ⟨hp, rfl⟩, ?_, rfl⟩
  simp [hj]

/-- Every cycle of the sequencer takes the received word into `sr_in` (R94). -/
@[simp] theorem sequencerCycle_srIn (s : State) : (sequencerCycle s).srIn = s.srIn.extractLsb' 0 32 ++ dqI s := by
  unfold sequencerCycle
  cases s.st with
  | readWrite => unfold readWriteCycle; cases s.inp.we <;> rfl
  | readAck => obtain ⟨-, h⟩ | ⟨-, -, h⟩ := readAckCycle_cases s <;> rw [h] <;> rfl
  | _ => rfl

/-- The delay lines do not touch the received word. -/
@[simp] theorem dqI_dlyCycle (g : DlyGroup) (s : State) : dqI (dlyCycle g s) = dqI s := by
  cases g <;> rfl

theorem step_srIn {s : State} (h : s.inp.rst = false) :
    ∃ t, step s = .next t ∧ t.srIn = s.srIn.extractLsb' 0 32 ++ dqI s := by
  refine ⟨_, step_eq s, ?_⟩
  have hio : (dlyCycle .clk (dlyCycle .io s)).srIn = s.srIn := by simp [dlyCycle]
  rw [finishCycle_of_rst_eq_false h]
  simp [hio]

/-- The read window (R73, R99, R161): the last two bytes of `sr_in` and the first two of this cycle's word. -/
theorem datR_eq (s : State) :
    datR s =
      s.srIn.extractLsb' 8 8 ++ s.srIn.extractLsb' 0 8 ++ (dqI s).extractLsb' 24 8 ++ (dqI s).extractLsb' 16 8 := by
  have hbytes (w : BitVec 96) :
      w.extractLsb' 16 32 = w.extractLsb' 40 8 ++ w.extractLsb' 32 8 ++ w.extractLsb' 24 8 ++ w.extractLsb' 16 8 := by
    simp only [BitVec.extractLsb'_append_extractLsb'_eq_extractLsb']
  refine (hbytes (s.srIn ++ dqI s)).trans ?_
  simp (disch := decide) only [BitVec.extractLsb'_append_eq_of_add_le, BitVec.extractLsb'_append_eq_of_le, Nat.reduceSub]

/-- Settles O33: the step put the last bytes of its own word where the window of the next cycle begins. -/
theorem readWindowAcrossCycles : Obligations.ReadWindowAcrossCycles := by
  intro s hrst
  obtain ⟨t, hstep, hsr⟩ := step_srIn hrst
  refine ⟨t, hstep, ?_, rfl⟩
  rw [datR_eq, hsr]
  simp (disch := decide) only [BitVec.extractLsb'_append_eq_of_add_le]

end Sys2Proof.Machine
end

section
/-! Which delay operation a record is (30_encoding.md R75), and what a step leaves of it. -/

namespace Sys2Proof.Machine

@[simp] theorem sequencerCycle_ioMove (s : State) : (sequencerCycle s).ioMove = s.ioMove := by
  rw [sequencerCycle_frame]

@[simp] theorem sequencerCycle_clkMove (s : State) : (sequencerCycle s).clkMove = s.clkMove := by
  rw [sequencerCycle_frame]

theorem step_moves {s t : State} (h : step s = .next t) :
    t.ioMove = s.inp.dlyIo.move ∧ t.clkMove = s.inp.dlyClk.move := by
  rw [step_next h, finishCycle_ioMove, finishCycle_clkMove]
  simp [dlyCycle, dlyRecord]

/-- What a record does to a line (R75, R155 to R158). -/
theorem lineMove_eq (g : DlyGroup) (r : DlyRecord) (movePrev : Bool) (n x : Nat) :
    lineMove g r movePrev n x =
      if r.loadn = false then loadPosition g
      else if r.move = true ∧ movePrev = false then
        (if r.direction = true then (if x = 0 then beyondEnd g n else x - 1)
         else if x + 1 < Config.dlyTaps then x + 1 else beyondEnd g n)
      else x := by
  obtain ⟨l, m, d⟩ := r
  cases l with
  | false => rfl
  | true =>
    by_cases hedge : m = true ∧ movePrev = false
    · obtain ⟨rfl, rfl⟩ := hedge
      cases d with
      | false => rfl
      | true => cases x <;> rfl
    · simp [lineMove, hedge]

/-- Settles O55: the one function that moves all lines of a group is the one its record stands for. -/
theorem delayRecordsMoveTheLines : Obligations.DelayRecordsMoveTheLines := by
  intro s
  have hstep := step_eq s
  obtain ⟨hio, hclk⟩ := step_moves hstep
  exact ⟨_, hstep, hio, hclk,
    ⟨_, beyondEnd_lt .io s.cycle, _, lineMove_eq .io s.inp.dlyIo s.ioMove s.cycle, step_ioLines hstep⟩,
    ⟨_, beyondEnd_lt .clk s.cycle, _, lineMove_eq .clk s.inp.dlyClk s.clkMove s.cycle, step_clkLines hstep⟩⟩

end Sys2Proof.Machine
end

section
/-! The four shift registers across a step (10_state.md R19 to R22, 40_datapath.md R91 to R95): what a step makes of them, said
once as `shiftersAfter`. The rule of each register is a component of it. -/

namespace Sys2Proof.Machine

/-- The shift registers of the data lanes and of the strobe lane, out and in. -/
structure Shifters where
  srOut : BitVec 64
  srRwdsOut : BitVec 8
  srIn : BitVec 64
  srRwdsIn : BitVec 8

/-- The shift registers of a state. -/
def shifters (s : State) : Shifters := ⟨s.srOut, s.srRwdsOut, s.srIn, s.srRwdsIn⟩

/-- The shift registers after the sequencer's cycle: the output registers shift but in the cycles that load them (R92, R93),
the input registers capture in every cycle (R94, R95). -/
def shiftersAfter (s : State) : Shifters where
  srOut :=
    if s.st = .caSend then caWord s.inp.we s.inp.adr ++ 0#16
    else if s.st = .readWrite ∧ s.inp.we = true then s.inp.datW ++ 0#32
    else if s.st = .holdWait then 0#64 else s.srOut <<< 32
  srRwdsOut :=
    if s.st = .readWrite ∧ s.inp.we = true then ~~~s.inp.sel ++ 0#4
    else if s.st = .holdWait then 0#8 else s.srRwdsOut <<< 4
  srIn := s.srIn.extractLsb' 0 32 ++ dqI s
  srRwdsIn := s.srRwdsIn.extractLsb' 0 4 ++ rwdsI s

theorem shifters_shiftAll (s : State) :
    shifters (shiftAll s) =
      ⟨s.srOut <<< 32, s.srRwdsOut <<< 4, s.srIn.extractLsb' 0 32 ++ dqI s, s.srRwdsIn.extractLsb' 0 4 ++ rwdsI s⟩ := by
  have hout : (shiftAll s).srOut = s.srOut <<< 32 := by rw [shiftAll_eq_shiftedLeft, shiftedLeft]
  have hmask : (shiftAll s).srRwdsOut = s.srRwdsOut <<< 4 := by rw [shiftAll_eq_shiftedLeft, shiftedLeft]
  rw [shifters, hout, hmask, shiftAll_srIn, shiftAll_srRwdsIn]

/-- READ-ACK loads no shift register, with an abort or without (R120, R207). -/
theorem shifters_readAckCycle (s : State) : shifters (readAckCycle s) = shifters (shiftAll s) := by
  obtain ⟨-, h⟩ | ⟨-, -, h⟩ := readAckCycle_cases s
  · rw [h]; rfl
  · rw [h]; rfl

theorem shifters_sequencerCycle (s : State) : shifters (sequencerCycle s) = shiftersAfter s := by
  unfold sequencerCycle shiftersAfter
  cases s.st with
  | caSend =>
    have hload : shifters (caSendCycle s) =
        { shifters (shiftAll s) with srOut := caWord s.inp.we s.inp.adr ++ 0#16 } := rfl
    rw [shifters_shiftAll] at hload
    exact hload
  | readWrite =>
    cases hwe : s.inp.we with
    | true => simp [readWriteCycle, hwe, writeBeatCycle, shifters]
    | false =>
      have hread : readWriteCycle s = { shiftAll s with st := .readAck } := if_neg (by simp [hwe])
      exact (congrArg shifters hread).trans (shifters_shiftAll s)
  | readAck => exact (shifters_readAckCycle s).trans (shifters_shiftAll s)
  | holdWait => rfl
  | _ => exact shifters_shiftAll s

/-- The delay lines are no input of the shift registers. -/
theorem shiftersAfter_dlyCycle (g : DlyGroup) (s : State) : shiftersAfter (dlyCycle g s) = shiftersAfter s := by
  cases g <;> rfl

theorem step_shifters {s : State} (h : s.inp.rst = false) : ∃ t, step s = .next t ∧ shifters t = shiftersAfter s := by
  refine ⟨_, step_eq s, ?_⟩
  rw [finishCycle_of_rst_eq_false h]
  calc shifters (sequencerCycle (dlyCycle .clk (dlyCycle .io s)))
      = shiftersAfter (dlyCycle .clk (dlyCycle .io s)) := shifters_sequencerCycle _
    _ = shiftersAfter s := by rw [shiftersAfter_dlyCycle, shiftersAfter_dlyCycle]

/-- Settles O17: the output register of the data lanes among the shift registers after a step. -/
theorem outputRegisterRule : Obligations.OutputRegisterRule := by
  intro s h
  obtain ⟨t, hstep, ht⟩ := step_shifters h
  exact ⟨t, hstep, congrArg Shifters.srOut ht⟩

/-- Settles O18: the output register of the strobe lane among the shift registers after a step. -/
theorem strobeRegisterRule : Obligations.StrobeRegisterRule := by
  intro s h
  obtain ⟨t, hstep, ht⟩ := step_shifters h
  exact ⟨t, hstep, congrArg Shifters.srRwdsOut ht⟩

/-- Settles O19: each input register after a step is the kept half above the captured word. -/
theorem inputRegistersRule : Obligations.InputRegistersRule := by
  intro s h
  obtain ⟨t, hstep, ht⟩ := step_shifters h
  have hdata : t.srIn = s.srIn.extractLsb' 0 32 ++ dqI s := congrArg Shifters.srIn ht
  have hstrobe : t.srRwdsIn = s.srRwdsIn.extractLsb' 0 4 ++ rwdsI s := congrArg Shifters.srRwdsIn ht
  refine ⟨t, hstep, ?_⟩
  rw [hdata, hstrobe]
  exact ⟨BitVec.extractLsb'_append_eq_right, BitVec.extractLsb'_append_eq_left,
    BitVec.extractLsb'_append_eq_right, BitVec.extractLsb'_append_eq_left⟩

end Sys2Proof.Machine
end

section
/-! The command phase, the latency ladder and the tail as wholes (41_sequencer.md R111 to R118, R121 to R123): what each cycle
writes on top of the registered defaults. -/

namespace Sys2Proof.Machine

open Host

/-- A cycle of a wait ladder only advances. -/
theorem ladderCycle_eq (next : SeqState) (s : State) : ladderCycle next s = { shiftedLeft s with st := next } := by
  rw [ladderCycle, shiftAll_eq_shiftedLeft]

@[simp] theorem shiftedLeft_cs (s : State) : (shiftedLeft s).cs = s.cs := by
  rw [shiftedLeft]

/-- IDLE selects the device on a trigger and waits without one (R111). -/
theorem idleCycle_eq (s : State) :
    idleCycle s =
      if s.inp.cyc = true ∧ s.inp.stb = true then { shiftedLeft s with cs := true, st := .caSend }
      else { shiftedLeft s with st := .idle } := by
  rw [idleCycle, shiftAll_eq_shiftedLeft]
  by_cases h : trigger s = true
  · rw [if_pos (trigger_iff.mp h), if_pos h, h, Bool.true_or]
  · rw [if_neg (mt trigger_iff.mpr h), if_neg h]
    simp only [h, Bool.false_or, shiftedLeft_cs]

theorem caSendCycle_eq (s : State) :
    caSendCycle s =
      { shiftedLeft s with
        clkEn := true, dqOe := true, srOut := caWord s.inp.we s.inp.adr ++ 0#16, st := .caWait } := by
  rw [caSendCycle, loadCommand, commandWord, shiftAll_eq_shiftedLeft]

theorem caWaitCycle_eq (s : State) : caWaitCycle s = { shiftedLeft s with tc := 0#6, st := .latencyWait } := by
  rw [caWaitCycle, shiftAll_eq_shiftedLeft]

/-- Settles O22: executing each row of the command phase is its cycle, in any state. -/
theorem commandPhaseEffects : Obligations.CommandPhaseEffects := fun s =>
  ⟨congrArg Outcome.next (idleCycle_eq s), congrArg Outcome.next (caSendCycle_eq s),
    congrArg Outcome.next (caWaitCycle_eq s)⟩

theorem latencyWaitCycle_eq (s : State) :
    latencyWaitCycle s = { shiftedLeft s with dqOe := false, st := .latencyWait0 } := by
  rw [latencyWaitCycle, shiftAll_eq_shiftedLeft]

theorem latencyWait3Cycle_eq (s : State) :
    latencyWait3Cycle s = { shiftedLeft s with dqOe := s.inp.we, rwdsOe := s.inp.we, st := .readWrite } := by
  rw [latencyWait3Cycle, shiftAll_eq_shiftedLeft]

/-- Settles O23: executing each row of the latency ladder is its cycle, and three of the five are plain ladder cycles. -/
theorem latencyLadderEffects : Obligations.LatencyLadderEffects := fun s =>
  ⟨congrArg Outcome.next (latencyWaitCycle_eq s), congrArg Outcome.next (ladderCycle_eq .latencyWait1 s),
    congrArg Outcome.next (ladderCycle_eq .latencyWait2 s), congrArg Outcome.next (ladderCycle_eq .latencyWait3 s),
    congrArg Outcome.next (latencyWait3Cycle_eq s)⟩

theorem clkOffCycle_eq (s : State) : clkOffCycle s = { shiftedLeft s with clkEn := false, st := .cleanup } := by
  rw [clkOffCycle, shiftAll_eq_shiftedLeft]

theorem cleanupCycle_eq (s : State) :
    cleanupCycle s = { shiftedLeft s with cs := false, dqOe := false, rwdsOe := false, st := .holdWait } := by
  rw [cleanupCycle, shiftAll_eq_shiftedLeft]

theorem holdWaitCycle_eq (s : State) :
    holdWaitCycle s = { shiftedLeft s with srOut := 0#64, srRwdsOut := 0#8, st := .holdWait0 } := by
  rw [holdWaitCycle, shiftAll_eq_shiftedLeft]

/-- Settles O26: executing each row of the tail before the hold ladder is its cycle, in any state. -/
theorem tailEffects : Obligations.TailEffects := fun s =>
  ⟨congrArg Outcome.next (clkOffCycle_eq s), congrArg Outcome.next (cleanupCycle_eq s),
    congrArg Outcome.next (holdWaitCycle_eq s)⟩

end Sys2Proof.Machine
end

section
/-! The acknowledge (40_datapath.md R100) and the device reset line (R103, 43_phy.md R184). -/

namespace Sys2Proof.Machine

/-- Settles O32: with `ACK_ON_ABORT_CYCLE` true, an abort does not show in the acknowledge. -/
theorem acknowledgeRule : Obligations.AcknowledgeRule := by
  intro s
  have habort : (ackOnAbortCycle || (abortCause s).isNone) = true := rfl
  rw [ack, habort, vstb_eq]
  simp

/-- What the pins carry in a bit-time of a cycle is made from the samples that arrive in it. -/
theorem exists_pinState_of_mem_pins {s : State} {p : PinState} (h : p ∈ (pins s).toList) :
    ∃ c l k, p = pinState c l k := by
  simp only [pins, Quad.toList, List.mem_cons, List.not_mem_nil, or_false] at h
  obtain rfl | rfl | rfl | rfl := h <;> exact ⟨_, _, _, rfl⟩

/-- Settles O38: no sample reaches the reset line, so it is the constant of R103 in every bit-time. -/
theorem resetLineAlwaysHigh : Obligations.ResetLineAlwaysHigh := by
  intro s p hp
  obtain ⟨c, l, k, rfl⟩ := exists_pinState_of_mem_pins hp
  rfl

end Sys2Proof.Machine
end

section
/-! READ-ACK and the hold ladder as wholes (41_sequencer.md R120, R124 to R137), and read requests (42_transactions.md R152,
R154). -/

namespace Sys2Proof.Machine

open Host

/-- An abort has one of two causes (60_exceptions.md R201, R202). -/
theorem abortCause_isSome_iff {s : State} : (abortCause s).isSome = true ↔ s.inp.cyc = false ∨ 20 < s.tc.toNat := by
  rw [← Option.not_isNone, Bool.not_eq_true', ← Bool.not_eq_true, Option.isNone_iff_eq_none, abortCause_eq_none,
    ← timedOut_iff, not_and_or, Bool.not_eq_true, Bool.not_eq_false]

/-- READ-ACK (R120): the strobe's actions, and an abort in the successor only (R203, R207). -/
theorem readAckCycle_eq (s : State) :
    readAckCycle s =
      { shiftedLeft s with
        tc := if (rwdsI s).getLsbD 3 = true then 0#6 else s.tc + 1#6
        clkEn := if (rwdsI s).getLsbD 3 = true ∧ s.inp.cti ≠ 0b010#3 then false else s.clkEn
        st :=
          if s.inp.cyc = false ∨ 20 < s.tc.toNat then .clkOff
          else if (rwdsI s).getLsbD 3 = true ∧ s.inp.cti ≠ 0b010#3 then .cleanup else .readAck } := by
  obtain ⟨hnone, heq⟩ | ⟨cause, hsome, heq⟩ := readAckCycle_cases s
  · have hgoesOn : ¬(s.inp.cyc = false ∨ 20 < s.tc.toNat) := by simp [← abortCause_isSome_iff, hnone]
    rw [heq, strobeCycle_eq, if_neg hgoesOn]
  · have haborts : s.inp.cyc = false ∨ 20 < s.tc.toNat := by simp [← abortCause_isSome_iff, hsome]
    rw [heq, strobeCycle_eq, if_pos haborts]

/-- Settles O25: executing READ-ACK is its cycle, in any state. -/
theorem readAckEffects : Obligations.ReadAckEffects := fun s => congrArg Outcome.next (readAckCycle_eq s)

/-- Settles O27: executing each row of the hold ladder is a plain ladder cycle. -/
theorem holdLadderEffects : Obligations.HoldLadderEffects := by
  intro s
  have hladder (next : SeqState) : Outcome.next (φ := Fault) (ρ := Refusal) (ladderCycle next s) =
      .next { shiftedLeft s with st := next } := congrArg Outcome.next (ladderCycle_eq next s)
  exact ⟨hladder .holdWait1, hladder .holdWait2, hladder .holdWait3, hladder .holdWait4, hladder .holdWait5,
    hladder .holdWait6, hladder .holdWait7, hladder .holdWait8, hladder .holdWait9, hladder .holdWait10,
    hladder .holdWait11, hladder .holdWait12, hladder .holdWait13, hladder .idle⟩

/-- READ-WRITE on the way into a read (R119). -/
theorem sequencerCycle_of_readWrite_read {s : State} (h : s.st = .readWrite) (hwe : s.inp.we = false) :
    sequencerCycle s = { shiftedLeft s with st := .readAck } := by
  have hseq : sequencerCycle s = readWriteCycle s := by simp only [sequencerCycle, h]
  rw [hseq, readWriteCycle_eq, if_neg (by simp [hwe])]

theorem exec_rd_eq_next {a : Addr} {c : BitVec 3} {s t : State}
    (h : sequencerCycle (presentRead a c s) = t) : exec (.rd a c) s = .next t :=
  (exec_rd a c s).trans (congrArg Outcome.next h)

theorem exec_rdIncr_eq_next {a : Addr} {s t : State}
    (h : sequencerCycle (presentRead a 0b010#3 s) = t) : exec (.rdIncr a) s = .next t :=
  (exec_rdIncr a s).trans (congrArg Outcome.next h)

/-- Settles O31: each pair of clauses is the sequencer's cycle in one state, with a read on the bus. -/
theorem readRequestEffects : Obligations.ReadRequestEffects := by
  intro s a c hc
  refine ⟨fun h => ?idle, fun h => ?caSend, fun h => ?latencyWait3, fun h => ?readWrite, fun h => ?readAck⟩
  case idle =>
    exact ⟨exec_rd_eq_next (sequencerCycle_of_idle h rfl), exec_rdIncr_eq_next (sequencerCycle_of_idle h rfl)⟩
  case caSend =>
    exact ⟨exec_rd_eq_next (sequencerCycle_of_caSend h), exec_rdIncr_eq_next (sequencerCycle_of_caSend h)⟩
  case latencyWait3 =>
    exact ⟨exec_rd_eq_next (sequencerCycle_of_latencyWait3 h), exec_rdIncr_eq_next (sequencerCycle_of_latencyWait3 h)⟩
  case readWrite =>
    exact ⟨exec_rd_eq_next (sequencerCycle_of_readWrite_read h rfl),
      exec_rdIncr_eq_next (sequencerCycle_of_readWrite_read h rfl)⟩
  case readAck =>
    exact ⟨exec_rd_eq_next (sequencerCycle_of_readAck_last h rfl hc),
      exec_rdIncr_eq_next (sequencerCycle_of_readAck_more h rfl rfl)⟩

end Sys2Proof.Machine
end

section
/-! The transition table (41_sequencer.md R138): the state register across a step, said once as `successor`. -/

namespace Sys2Proof.Machine

/-- The state register after the sequencer's cycle, as R138's table gives it. -/
def successor (s : State) : SeqState :=
  match s.st with
  | .idle => if s.inp.cyc = true ∧ s.inp.stb = true then .caSend else .idle
  | .caSend => .caWait
  | .caWait => .latencyWait
  | .latencyWait => .latencyWait0
  | .latencyWait0 => .latencyWait1
  | .latencyWait1 => .latencyWait2
  | .latencyWait2 => .latencyWait3
  | .latencyWait3 => .readWrite
  | .readWrite =>
    if s.inp.we = true then (if s.inp.cti = 0b010#3 then .readWrite else .clkOff) else .readAck
  | .readAck =>
    if s.inp.cyc = false ∨ 20 < s.tc.toNat then .clkOff
    else if (rwdsI s).getLsbD 3 = true ∧ s.inp.cti ≠ 0b010#3 then .cleanup else .readAck
  | .clkOff => .cleanup
  | .cleanup => .holdWait
  | .holdWait => .holdWait0
  | .holdWait0 => .holdWait1
  | .holdWait1 => .holdWait2
  | .holdWait2 => .holdWait3
  | .holdWait3 => .holdWait4
  | .holdWait4 => .holdWait5
  | .holdWait5 => .holdWait6
  | .holdWait6 => .holdWait7
  | .holdWait7 => .holdWait8
  | .holdWait8 => .holdWait9
  | .holdWait9 => .holdWait10
  | .holdWait10 => .holdWait11
  | .holdWait11 => .holdWait12
  | .holdWait12 => .holdWait13
  | .holdWait13 => .idle

/-- Three states choose their successor by the inputs; the others have one. -/
theorem sequencerCycle_st (s : State) : (sequencerCycle s).st = successor s := by
  unfold sequencerCycle successor
  cases s.st with
  | idle => exact if_congr trigger_iff rfl rfl
  | readWrite =>
    refine (congrArg State.st (readWriteCycle_eq s)).trans ?_
    dsimp only
    split <;> rfl
  | readAck => exact congrArg State.st (readAckCycle_eq s)
  | _ => rfl

/-- The delay lines are no input of the state register. -/
theorem successor_dlyCycle (g : DlyGroup) (s : State) : successor (dlyCycle g s) = successor s := by
  cases g <;> rfl

theorem step_st {s : State} (h : s.inp.rst = false) : ∃ t, step s = .next t ∧ t.st = successor s := by
  refine ⟨_, step_eq s, ?_⟩
  rw [finishCycle_of_rst_eq_false h]
  calc (sequencerCycle (dlyCycle .clk (dlyCycle .io s))).st
      = successor (dlyCycle .clk (dlyCycle .io s)) := sequencerCycle_st _
    _ = successor s := by rw [successor_dlyCycle, successor_dlyCycle]

/-- Settles O21: the table is the state register after a step. -/
theorem transitionTable : Obligations.TransitionTable := fun _ h => step_st h

end Sys2Proof.Machine
end

section
/-! The invariant (41_sequencer.md R142, 40_datapath.md R104) read row by row: what each of the 27 states says of the control
levels, of the timeout counter, and of the two output registers. Its clauses are the columns of these tables, and a step goes
from row to row. -/

namespace Sys2Proof.Machine

/-- The levels of the chip select, the clock enable and the two drivers that a state allows (R142a to R142d). -/
def LevelsFit (st : SeqState) (c : Controls) : Prop :=
  match st with
  | .caSend => c.cs = true ∧ c.clkEn = false ∧ c.dqOe = false ∧ c.rwdsOe = false
  | .caWait | .latencyWait => c.cs = true ∧ c.clkEn = true ∧ c.dqOe = true ∧ c.rwdsOe = false
  | .latencyWait0 | .latencyWait1 | .latencyWait2 | .latencyWait3 =>
    c.cs = true ∧ c.clkEn = true ∧ c.dqOe = false ∧ c.rwdsOe = false
  | .readWrite | .readAck => c.cs = true ∧ c.clkEn = true ∧ c.dqOe = c.rwdsOe
  | .clkOff => c.cs = true ∧ c.dqOe = c.rwdsOe
  | .cleanup => c.cs = true ∧ c.clkEn = false ∧ c.dqOe = c.rwdsOe
  | _ => c.cs = false ∧ c.clkEn = false ∧ c.dqOe = false ∧ c.rwdsOe = false

/-- The largest value of the timeout counter that a state allows (R104). -/
def tcLimit : SeqState → Nat
  | .latencyWait | .latencyWait0 | .latencyWait1 | .latencyWait2 | .latencyWait3 | .readWrite => 0
  | .readAck => 21
  | _ => 22

/-- What a state allows in the two output registers: a word or a mask while one is on its way out, else 0 (R142f). -/
def OutputsFit (st : SeqState) (r : Shifters) : Prop :=
  match st with
  | .caWait => r.srRwdsOut = 0#8
  | .latencyWait => r.srOut.extractLsb' 0 32 = 0#32 ∧ r.srRwdsOut = 0#8
  | .readWrite | .clkOff => r.srOut.extractLsb' 0 32 = 0#32 ∧ r.srRwdsOut.extractLsb' 0 4 = 0#4
  | _ => r.srOut = 0#64 ∧ r.srRwdsOut = 0#8

/-- The eight clauses of the invariant about the control levels are the columns of their table. -/
theorem levelsFit_iff (st : SeqState) (c : Controls) :
    LevelsFit st c ↔
      c.cs = selectedIn st ∧ (clockedIn st = true → c.clkEn = true) ∧
        (clockedIn st = false → st ≠ .clkOff → c.clkEn = false) ∧
        (st = .caWait ∨ st = .latencyWait → c.dqOe = true) ∧
        ((stateCode st).toNat < 8 → c.rwdsOe = false) ∧
        ((stateCode st).toNat < 8 → st ≠ .caWait → st ≠ .latencyWait → c.dqOe = false) ∧
        (8 ≤ (stateCode st).toNat → c.dqOe = c.rwdsOe) ∧ (12 ≤ (stateCode st).toNat → c.dqOe = false) := by
  have hcomm : c.dqOe = false ∧ c.rwdsOe = false ↔ c.rwdsOe = false ∧ c.dqOe = false := and_comm
  have hboth : c.dqOe = c.rwdsOe ∧ c.dqOe = false ↔ c.rwdsOe = false ∧ c.dqOe = false := by
    cases c.dqOe <;> simp
  cases st <;> simp [LevelsFit, selectedIn, clockedIn, stateCode, hcomm, hboth]

/-- The three clauses about the timeout counter are the table of its limits. -/
theorem le_tcLimit_iff (st : SeqState) (tc : BitVec 6) :
    tc.toNat ≤ tcLimit st ↔
      (3 ≤ (stateCode st).toNat → (stateCode st).toNat ≤ 8 → tc = 0#6) ∧ (st = .readAck → tc.toNat ≤ 21) ∧
        tc.toNat ≤ 22 := by
  cases st <;> simp only [tcLimit] <;> revert tc <;> decide

/-- The four clauses about the output registers are the columns of their table. -/
theorem outputsFit_iff (st : SeqState) (r : Shifters) :
    OutputsFit st r ↔
      (st ≠ .caWait → st ≠ .latencyWait → st ≠ .readWrite → st ≠ .clkOff → r.srOut = 0#64) ∧
        (st = .latencyWait ∨ st = .readWrite ∨ st = .clkOff → r.srOut.extractLsb' 0 32 = 0#32) ∧
        (st ≠ .readWrite → st ≠ .clkOff → r.srRwdsOut = 0#8) ∧
        (st = .readWrite ∨ st = .clkOff → r.srRwdsOut.extractLsb' 0 4 = 0#4) := by
  cases st <;> simp [OutputsFit]

/-- The four pipelines of the serialization layer are as long as their latencies (R29, R176). -/
def PipesFit (s : State) : Prop :=
  s.ctlPipe.length = Config.lCtl ∧ s.txPipe.length = Config.lTx ∧ s.ckPipe.length = Config.lCk ∧
    s.rxPipe.length = Config.lRx

/-- The invariant as its tables, the lengths of the pipelines, and the range of the delay lines. -/
theorem inv_iff (s : State) :
    s.Inv ↔
      LevelsFit s.st (controls s) ∧ s.tc.toNat ≤ tcLimit s.st ∧ OutputsFit s.st (shifters s) ∧ PipesFit s ∧
        s.ioLines.inRange ∧ s.clkLines.inRange := by
  rw [levelsFit_iff, le_tcLimit_iff, outputsFit_iff]
  constructor
  · intro h
    exact ⟨⟨h.selected, h.clockOn, h.clockOff, h.commandDriven, h.strobeReleased, h.dataReleased, h.bothDriven,
      h.holdReleased⟩, ⟨h.tcCleared, h.tcWaiting, h.tcBound⟩, ⟨h.outZero, h.outLow, h.maskZero, h.maskLow⟩,
      ⟨h.ctlLength, h.txLength, h.ckLength, h.rxLength⟩, h.ioInRange, h.clkInRange⟩
  · rintro ⟨⟨selected, clockOn, clockOff, commandDriven, strobeReleased, dataReleased, bothDriven, holdReleased⟩,
      ⟨tcCleared, tcWaiting, tcBound⟩, ⟨outZero, outLow, maskZero, maskLow⟩, ⟨ctlLength, txLength, ckLength, rxLength⟩,
      ioInRange, clkInRange⟩
    exact { selected, clockOn, clockOff, commandDriven, strobeReleased, dataReleased, bothDriven, holdReleased, tcCleared,
            tcWaiting, tcBound, outZero, outLow, maskZero, maskLow, ctlLength, txLength, ckLength, rxLength, ioInRange,
            clkInRange }

/-- Settles O42: every table has its row for IDLE, and no delay line stands beyond its end. -/
theorem resetHasInv : Obligations.ResetHasInv :=
  (inv_iff State.reset).mpr ⟨⟨rfl, rfl, rfl, rfl⟩, Nat.zero_le 22, ⟨rfl, rfl⟩,
    ⟨List.length_replicate, List.length_replicate, List.length_replicate, List.length_replicate⟩,
    ⟨dlyTaps_pos, dlyTaps_pos, dlyTaps_pos, dlyTaps_pos, dlyTaps_pos, dlyTaps_pos, dlyTaps_pos, dlyTaps_pos,
      dlyTaps_pos⟩, dlyTaps_pos, dlyTaps_pos⟩

end Sys2Proof.Machine
end

section
/-! Every step keeps the invariant, table by table: the control levels, the timeout counter, the output registers, the
pipelines, the delay lines. -/

namespace Sys2Proof.Machine

open Host

/-- The states that write a control register write what their successor's row asks (R111 to R122). -/
theorem levelsFit_successor {s : State} (h : LevelsFit s.st (controls s)) :
    LevelsFit (successor s) (controlsAfter s) := by
  unfold successor controlsAfter
  cases hst : s.st <;> rw [hst] at h <;> dsimp only
  case idle =>
    obtain ⟨hcs, hclk, hdq, hrwds⟩ := h
    split
    next ht => exact ⟨Bool.or_eq_true_iff.mpr (.inl (trigger_iff.mpr ht)), hclk, hdq, hrwds⟩
    next ht => exact ⟨Bool.or_eq_false_iff.mpr ⟨Bool.eq_false_iff.mpr (mt trigger_iff.mp ht), hcs⟩, hclk, hdq, hrwds⟩
  case caSend =>
    obtain ⟨hcs, -, -, hrwds⟩ := h
    exact ⟨hcs, rfl, rfl, hrwds⟩
  case latencyWait =>
    obtain ⟨hcs, hclk, -, hrwds⟩ := h
    exact ⟨hcs, hclk, rfl, hrwds⟩
  case latencyWait3 =>
    obtain ⟨hcs, hclk, -, -⟩ := h
    exact ⟨hcs, hclk, rfl⟩
  case readWrite =>
    obtain ⟨hcs, hclk, hboth⟩ := h
    split
    · split
      · exact ⟨hcs, hclk, hboth⟩
      · exact ⟨hcs, hboth⟩
    · exact ⟨hcs, hclk, hboth⟩
  case readAck =>
    obtain ⟨hcs, hclk, hboth⟩ := h
    split
    · exact ⟨hcs, hboth⟩
    · split
      next hlast =>
        have hstops : (s.clkEn && !(vstb s && !incrementing s)) = false := by
          rw [lastStrobe_iff.mpr hlast, Bool.not_true, Bool.and_false]
        exact ⟨hcs, hstops, hboth⟩
      next hmore =>
        have hruns : (vstb s && !incrementing s) = false := Bool.eq_false_iff.mpr (mt lastStrobe_iff.mp hmore)
        have hgoesOn : (s.clkEn && !(vstb s && !incrementing s)) = true := by
          rw [hruns, Bool.not_false, Bool.and_true]
          exact hclk
        exact ⟨hcs, hgoesOn, hboth⟩
  case clkOff =>
    obtain ⟨hcs, hboth⟩ := h
    exact ⟨hcs, rfl, hboth⟩
  case cleanup =>
    obtain ⟨-, hclk, -⟩ := h
    exact ⟨rfl, hclk, rfl, rfl⟩
  all_goals exact h

/-- CA-WAIT clears the counter, and only READ-ACK counts: a cycle that does not abort starts from 20 at most, and the one
that aborts from 21 (R104, R113, R120). -/
theorem tc_le_tcLimit_successor {s : State} (h : s.tc.toNat ≤ tcLimit s.st) :
    (controlsAfter s).tc.toNat ≤ tcLimit (successor s) := by
  unfold successor controlsAfter
  cases hst : s.st <;> rw [hst] at h <;> dsimp only
  case idle => split <;> exact h
  case caWait => exact Nat.le_refl 0
  case readWrite => exact h.trans (Nat.zero_le _)
  case readAck =>
    have hwaiting : s.tc.toNat ≤ 21 := h
    have hcount : (if vstb s then 0#6 else s.tc + 1#6).toNat ≤ s.tc.toNat + 1 := by
      split
      · exact Nat.zero_le _
      · exact (BitVec.toNat_add _ _).trans_le (Nat.mod_le _ _)
    refine hcount.trans ?_
    split
    · exact Nat.succ_le_succ hwaiting
    next hgoesOn =>
      have hearly : s.tc.toNat ≤ 20 := Nat.le_of_not_lt fun hlate => hgoesOn (.inr hlate)
      split
      · exact Nat.succ_le_succ hwaiting
      · exact Nat.succ_le_succ hearly
  all_goals exact h

/-- A word whose lower part is 0 is gone after a shift. -/
theorem shiftLeft_eq_zero {m n : Nat} {x : BitVec (m + n)} (h : x.extractLsb' 0 m = 0#m) : x <<< n = 0#(m + n) := by
  simpa [h] using (extractLsb'_append_eq_shiftLeft_or x 0#n).symm

/-- What a shift leaves in the lower part of a word is 0. -/
theorem extractLsb'_shiftLeft_eq_zero {n : Nat} (x : BitVec (n + n)) : (x <<< n).extractLsb' 0 n = 0#n := by
  have h : x <<< n = x.extractLsb' 0 n ++ 0#n := by simpa using (extractLsb'_append_eq_shiftLeft_or x 0#n).symm
  rw [h]
  exact BitVec.extractLsb'_append_eq_right

/-- A word that a load puts into an output register is out two cycles later, and HOLD-WAIT finds nothing to clear (R91 to
R93, R123). -/
theorem outputsFit_successor {s : State} (h : OutputsFit s.st (shifters s)) :
    OutputsFit (successor s) (shiftersAfter s) := by
  have hout (hlow : s.srOut.extractLsb' 0 32 = 0#32) : s.srOut <<< 32 = 0#64 :=
    shiftLeft_eq_zero (m := 32) (n := 32) hlow
  have hmask (hzero : s.srRwdsOut = 0#8) : s.srRwdsOut <<< 4 = 0#8 := by rw [hzero, BitVec.zero_shiftLeft]
  have hempty (hzero : s.srOut = 0#64 ∧ s.srRwdsOut = 0#8) : s.srOut <<< 32 = 0#64 ∧ s.srRwdsOut <<< 4 = 0#8 :=
    ⟨by rw [hzero.1, BitVec.zero_shiftLeft], hmask hzero.2⟩
  have hlast (hlow : s.srOut.extractLsb' 0 32 = 0#32 ∧ s.srRwdsOut.extractLsb' 0 4 = 0#4) :
      s.srOut <<< 32 = 0#64 ∧ s.srRwdsOut <<< 4 = 0#8 := ⟨hout hlow.1, shiftLeft_eq_zero (m := 4) (n := 4) hlow.2⟩
  have hshifted : (s.srOut <<< 32).extractLsb' 0 32 = 0#32 ∧ (s.srRwdsOut <<< 4).extractLsb' 0 4 = 0#4 :=
    ⟨extractLsb'_shiftLeft_eq_zero (n := 32) s.srOut, extractLsb'_shiftLeft_eq_zero (n := 4) s.srRwdsOut⟩
  unfold successor shiftersAfter
  cases hst : s.st <;> rw [hst] at h <;> simp only [reduceCtorEq, if_false, if_true, false_and, true_and]
  case idle => split <;> exact hempty h
  case caSend => exact hmask h.2
  case caWait => exact ⟨hshifted.1, hmask h⟩
  case latencyWait => exact ⟨hout h.1, hmask h.2⟩
  case latencyWait3 => exact hshifted
  case readWrite =>
    have hloaded : (s.inp.datW ++ 0#32).extractLsb' 0 32 = 0#32 ∧ (~~~s.inp.sel ++ 0#4).extractLsb' 0 4 = 0#4 :=
      ⟨BitVec.extractLsb'_append_eq_right, BitVec.extractLsb'_append_eq_right⟩
    cases s.inp.we with
    | true =>
      simp only [if_true]
      split <;> exact hloaded
    | false => exact hlast h
  case readAck =>
    split
    · exact hshifted
    · split <;> exact hempty h
  case clkOff => exact hlast h
  case holdWait => exact ⟨rfl, rfl⟩
  all_goals exact hempty h

/-- The registers of the sequencer after a step without reset. -/
theorem step_registers {s t : State} (hrst : s.inp.rst = false) (hstep : step s = .next t) :
    t.st = successor s ∧ controls t = controlsAfter s ∧ shifters t = shiftersAfter s := by
  obtain ⟨u, hu, hst⟩ := step_st hrst
  obtain ⟨v, hv, hcontrols⟩ := step_controls hrst
  obtain ⟨w, hw, hshifters⟩ := step_shifters hrst
  obtain rfl : u = t := Outcome.next.inj (hu.symm.trans hstep)
  obtain rfl : v = u := Outcome.next.inj (hv.symm.trans hstep)
  obtain rfl : w = v := Outcome.next.inj (hw.symm.trans hstep)
  exact ⟨hst, hcontrols, hshifters⟩

/-- The registers of the sequencer after a step with reset (70_reset_and_hazards.md R230). -/
theorem step_registers_of_rst {s t : State} (hrst : s.inp.rst = true) (hstep : step s = .next t) :
    t.st = .idle ∧ controls t = ⟨false, false, false, false, 0#6⟩ ∧ shifters t = ⟨0#64, 0#8, 0#64, 0#8⟩ := by
  rw [step_next hstep]
  simp only [finishCycle, hrst, if_true]
  exact ⟨rfl, rfl, rfl⟩

theorem step_keeps_registersFit {s t : State} (hstep : step s = .next t) (hlevels : LevelsFit s.st (controls s))
    (htc : s.tc.toNat ≤ tcLimit s.st) (houtputs : OutputsFit s.st (shifters s)) :
    LevelsFit t.st (controls t) ∧ (controls t).tc.toNat ≤ tcLimit t.st ∧ OutputsFit t.st (shifters t) := by
  cases hrst : s.inp.rst with
  | false =>
    obtain ⟨hst, hcontrols, hshifters⟩ := step_registers hrst hstep
    rw [hst, hcontrols, hshifters]
    exact ⟨levelsFit_successor hlevels, tc_le_tcLimit_successor htc, outputsFit_successor houtputs⟩
  | true =>
    obtain ⟨hst, hcontrols, hshifters⟩ := step_registers_of_rst hrst hstep
    rw [hst, hcontrols, hshifters]
    exact ⟨⟨rfl, rfl, rfl, rfl⟩, Nat.zero_le 22, rfl, rfl⟩

/-- Neither the passing of samples nor a reset changes how many a pipeline holds. -/
theorem step_keeps_pipesFit {s t : State} (hstep : step s = .next t) (h : PipesFit s) : PipesFit t := by
  obtain ⟨hctl, htx, hck, hrx⟩ := h
  rw [step_next hstep]
  cases hrst : s.inp.rst <;> simp [PipesFit, finishCycle, hrst, hctl, htx, hck, hrx]

/-- A record moves a line to a position of the line. -/
theorem inRange_lineMove (g : DlyGroup) (r : DlyRecord) (movePrev : Bool) (n : Nat) {p : Nat} (h : inRange p) :
    inRange (lineMove g r movePrev n p) := by
  unfold lineMove
  split
  · split
    · split
      · exact stepDown_lt g n h
      · exact stepUp_lt g n p
    · exact h
  · exact loadPosition_lt g

theorem IoLines.inRange_all {l : IoLines} {f : Nat → Nat} (hf : ∀ {p}, Machine.inRange p → Machine.inRange (f p))
    (h : l.inRange) : (l.all f).inRange := by
  obtain ⟨h0, h1, h2, h3, h4, h5, h6, h7, hrwds⟩ := h
  exact ⟨hf h0, hf h1, hf h2, hf h3, hf h4, hf h5, hf h6, hf h7, hf hrwds⟩

theorem ClkLines.inRange_all {l : ClkLines} {f : Nat → Nat} (hf : ∀ {p}, Machine.inRange p → Machine.inRange (f p))
    (h : l.inRange) : (l.all f).inRange := ⟨hf h.1, hf h.2⟩

/-- Settles O43: every table is kept, by a step with reset or without. -/
theorem stepKeepsInv : Obligations.StepKeepsInv := by
  intro s t hinv hstep
  obtain ⟨hlevels, htc, houtputs, hpipes, hio, hclk⟩ := (inv_iff s).mp hinv
  obtain ⟨hlevels', htc', houtputs'⟩ := step_keeps_registersFit hstep hlevels htc houtputs
  refine (inv_iff t).mpr ⟨hlevels', htc', houtputs', step_keeps_pipesFit hstep hpipes, ?_, ?_⟩
  · rw [step_ioLines hstep]
    exact IoLines.inRange_all (inRange_lineMove _ _ _ _) hio
  · rw [step_clkLines hstep]
    exact ClkLines.inRange_all (inRange_lineMove _ _ _ _) hclk

end Sys2Proof.Machine
end

section
/-! The delay operations as instructions (42_transactions.md R155 to R158). -/

namespace Sys2Proof.Machine

open Host

theorem stepDown_eq (g : DlyGroup) (n x : Nat) : stepDown g n x = if x = 0 then beyondEnd g n else x - 1 := by
  cases x <;> rfl

/-- Settles O29: an operation is one function on all lines of its group, and what lies outside the range is cut to it. -/
theorem delayOperationEffects : Obligations.DelayOperationEffects := fun s _ _ _ =>
  ⟨rfl, rfl, loadPosition_lt .io, loadPosition_lt .clk,
    ⟨_, beyondEnd_lt .io s.cycle, stepUp .io s.cycle, fun _ => rfl, rfl⟩,
    ⟨_, beyondEnd_lt .clk s.cycle, stepUp .clk s.cycle, fun _ => rfl, rfl⟩,
    ⟨_, beyondEnd_lt .io s.cycle, stepDown .io s.cycle, stepDown_eq .io s.cycle, rfl⟩,
    ⟨_, beyondEnd_lt .clk s.cycle, stepDown .clk s.cycle, stepDown_eq .clk s.cycle, rfl⟩, rfl, rfl⟩

end Sys2Proof.Machine
end

section
/-! Runs: a step always answers, so a run is an iteration, and a trace reads a value off its states. -/

namespace Sys2Proof.Machine

open Host

/-- The state that a step answers. -/
def nextState (s : State) : State := finishCycle s (sequencerCycle (dlyCycle .clk (dlyCycle .io s)))

theorem step_eq_nextState (s : State) : step s = .next (nextState s) := step_eq s

theorem nextState_registers {s : State} (h : s.inp.rst = false) :
    (nextState s).st = successor s ∧ controls (nextState s) = controlsAfter s ∧
      shifters (nextState s) = shiftersAfter s :=
  step_registers h (step_eq_nextState s)

theorem nextState_inv {s : State} (h : s.Inv) : (nextState s).Inv := stepKeepsInv s _ h (step_eq_nextState s)

theorem inputAt_nextState (s : State) (k : Nat) : (nextState s).inputAt k = s.inputAt (k + 1) :=
  inputAt_finishCycle s _ k

theorem iterate_nextState_inv {s : State} (h : s.Inv) (n : Nat) : (nextState^[n] s).Inv := by
  induction n generalizing s with
  | zero => exact h
  | succ n ih => exact ih (nextState_inv h)

theorem inputAt_iterate_nextState (s : State) (n k : Nat) : (nextState^[n] s).inputAt k = s.inputAt (k + n) := by
  induction n generalizing s with
  | zero => rfl
  | succ n ih => rw [Function.iterate_succ_apply, ih, inputAt_nextState, Nat.add_assoc]

theorem inp_iterate_nextState (s : State) (n : Nat) : (nextState^[n] s).inp = s.inputAt n := by
  have h := inputAt_iterate_nextState s n 0
  rwa [Nat.zero_add] at h

theorem State.unreset.mono {s : State} {m n : Nat} (h : s.unreset n) (hmn : m ≤ n) : s.unreset m :=
  fun k hk => h k (hk.trans_le hmn)

theorem State.unreset.iterate {s : State} {n m : Nat} (h : s.unreset (m + n)) : (nextState^[n] s).unreset m := fun k hk => by
  rw [inputAt_iterate_nextState]
  exact h (k + n) (Nat.add_lt_add_right hk n)

theorem State.unreset.rst {s : State} {n j : Nat} (h : s.unreset n) (hj : j < n) : (nextState^[j] s).inp.rst = false := by
  rw [inp_iterate_nextState]
  exact h j hj

theorem traceOf_succ {α : Type} (f : State → α) (n : Nat) (s : State) :
    traceOf f (n + 1) s = f s :: traceOf f n (nextState s) := by
  rw [traceOf, step_eq_nextState]

theorem traceOf_eq_map_iterate {α : Type} (f : State → α) (n : Nat) (s : State) :
    traceOf f n s = (List.iterate nextState s n).map f := by
  induction n generalizing s with
  | zero => rfl
  | succ n ih => rw [traceOf_succ, ih]; rfl

theorem traceOf_eq_map_range {α : Type} (f : State → α) (n : Nat) (s : State) :
    traceOf f n s = (List.range n).map (fun j => f (nextState^[j] s)) := by
  rw [traceOf_eq_map_iterate, ← List.range_map_iterate, List.map_map]
  rfl

theorem traceOf_add {α : Type} (f : State → α) (m n : Nat) (s : State) :
    traceOf f (m + n) s = traceOf f m s ++ traceOf f n (nextState^[m] s) := by
  simp only [traceOf_eq_map_iterate, List.iterate_add, List.map_append]

theorem getElem?_traceOf {α : Type} (f : State → α) {n j : Nat} (h : j < n) {s : State} :
    (traceOf f n s)[j]? = some (f (nextState^[j] s)) := by
  rw [traceOf_eq_map_iterate, List.getElem?_map, List.getElem?_iterate _ _ _ _ h, Option.map_some]

theorem traceOf_map {α β : Type} (g : α → β) (f : State → α) (n : Nat) (s : State) :
    (traceOf f n s).map g = traceOf (fun u => g (f u)) n s := by
  simp only [traceOf_eq_map_iterate, List.map_map, Function.comp_def]

end Sys2Proof.Machine
end

section
/-! Stretches of a run in which no input chooses the successor (41_sequencer.md R138): the latency ladder and the tail. -/

namespace Sys2Proof.Machine

/-- From `a` the machine goes to `b`, whatever its registers and inputs are. -/
def LeadsTo (a b : SeqState) : Prop := ∀ s : State, s.st = a → successor s = b

/-- A run along a path of states shows, in each of its cycles, what every cycle in the state of the path shows: in the states
that `R` allows, as long as `P` holds, which a cycle in such a state keeps. -/
theorem traceOf_path {α : Type} {f : State → α} {shows : SeqState → α} {P : State → Prop} {R : SeqState → Prop}
    (hshows : ∀ u, P u → R u.st → f u = shows u.st)
    (hkeeps : ∀ u, u.inp.rst = false → P u → R u.st → P (nextState u)) :
    ∀ {path : List SeqState} {a : SeqState} {s : State}, List.IsChain LeadsTo (a :: path) → (∀ st ∈ a :: path, R st) →
      s.st = a → P s → s.unreset path.length → traceOf f (path.length + 1) s = (a :: path).map shows
  | [], a, s, _, hR, hst, hP, _ => by
    rw [traceOf_succ, hshows s hP (hst ▸ hR a List.mem_cons_self), hst]
    rfl
  | b :: path, a, s, hchain, hR, hst, hP, hrst => by
    obtain ⟨hab, hchain⟩ := List.isChain_cons_cons.mp hchain
    have hRs : R s.st := hst ▸ hR a List.mem_cons_self
    have hrst0 : s.inp.rst = false := hrst.rst (Nat.succ_pos _)
    have hnext : (nextState s).st = b := (nextState_registers hrst0).1.trans (hab s hst)
    have hrest := traceOf_path hshows hkeeps hchain (fun st h => hR st (List.mem_cons_of_mem a h)) hnext
      (hkeeps s hrst0 hP hRs) (hrst.iterate (n := 1))
    rw [traceOf_succ, List.length_cons, hrest, hshows s hP hRs, hst, List.map_cons (a := a)]

/-- HOLD-WAIT to IDLE. -/
theorem isChain_holdStates : List.IsChain LeadsTo (holdStates ++ [.idle]) := by
  simp only [holdStates, List.cons_append, List.nil_append, List.isChain_cons_cons, List.isChain_singleton, and_true]
  refine ⟨?_, ?_, ?_, ?_, ?_, ?_, ?_, ?_, ?_, ?_, ?_, ?_, ?_, ?_, ?_⟩ <;> exact fun s h => by rw [successor, h]

end Sys2Proof.Machine
end

section
/-! Reads from their first READ-ACK cycle on (42_transactions.md R152, R154): the waiting cycles, the last beat or the timeout,
and the tail. A single read is a burst read of one beat. -/

namespace Sys2Proof.Machine

/-- What the statements about reads show of a cycle: state, acknowledge, timeout counter. -/
def readRow (s : State) : SeqState × Bool × Nat := (s.st, ack s, s.tc.toNat)

/-- Only READ-WRITE and READ-ACK acknowledge (R100). -/
theorem ack_eq_false {s : State} (hrw : s.st ≠ .readWrite) (hra : s.st ≠ .readAck) : ack s = false := by
  simp [ack, hrw, hra]

theorem ack_of_readAck {s : State} (hst : s.st = .readAck) (hrst : s.inp.rst = false) : ack s = vstb s := by
  simp [ack, hst, hrst, ackOnAbortCycle]

theorem readRow_of_readAck {s : State} (hst : s.st = .readAck) (hrst : s.inp.rst = false) :
    readRow s = (.readAck, vstb s, s.tc.toNat) := by
  rw [readRow, ack_of_readAck hst hrst, hst]

theorem nextState_tc {s : State} (h : s.inp.rst = false) :
    (nextState s).tc.toNat =
      (if s.st = .caWait then 0
        else if s.st = .readAck then (if (rwdsI s).getLsbD 3 = true then 0 else (s.tc.toNat + 1) % 64)
        else s.tc.toNat) :=
  (congrArg (·.tc.toNat) (nextState_registers h).2.1).trans (controlsAfter_tc_toNat s)

/-- The tail acknowledges nothing and leaves the counter as it is (R121 to R137). -/
theorem traceOf_readRow_path {path : List SeqState} {a : SeqState} {s : State} (hchain : List.IsChain LeadsTo (a :: path))
    (hpath : ∀ st ∈ a :: path, st ≠ .readWrite ∧ st ≠ .readAck ∧ st ≠ .caWait) (hst : s.st = a)
    (hrst : s.unreset path.length) :
    traceOf readRow (path.length + 1) s = (a :: path).map fun st => (st, false, s.tc.toNat) := by
  refine traceOf_path (P := fun u => u.tc.toNat = s.tc.toNat) ?_ ?_ hchain hpath hst rfl hrst
  · rintro u htc ⟨hrw, hra, -⟩
    rw [readRow, ack_eq_false hrw hra, htc]
  · rintro u hu htc ⟨-, hra, hca⟩
    rw [nextState_tc hu, if_neg hca, if_neg hra, htc]

theorem traceOf_readRow_cleanup {s : State} {n : Nat} (hst : s.st = .cleanup) (htc : s.tc.toNat = n) (hrst : s.unreset 16) :
    traceOf readRow 17 s =
      [(.cleanup, false, n)] ++ holdStates.map (fun h => (h, false, n)) ++ [(.idle, false, n)] := by
  subst htc
  exact traceOf_readRow_path (a := .cleanup) (path := holdStates ++ [SeqState.idle])
    (isChain_holdStates.cons_cons fun u h => by rw [successor, h]) (by decide) hst hrst

theorem traceOf_readRow_clkOff {s : State} {n : Nat} (hst : s.st = .clkOff) (htc : s.tc.toNat = n) (hrst : s.unreset 17) :
    traceOf readRow 18 s =
      [(.clkOff, false, n), (.cleanup, false, n)] ++ holdStates.map (fun h => (h, false, n)) ++ [(.idle, false, n)] := by
  subst htc
  exact traceOf_readRow_path (a := .clkOff) (path := .cleanup :: (holdStates ++ [SeqState.idle]))
    ((isChain_holdStates.cons_cons fun u h => by rw [successor, h]).cons_cons fun u h => by rw [successor, h])
    (by decide) hst hrst

/-- A READ-ACK cycle while `cyc` is held (R120): the timeout in the 22nd cycle of a gap, the last beat, or more to come. -/
theorem nextState_of_readAck {s : State} (hst : s.st = .readAck) (hrst : s.inp.rst = false) (hcyc : s.inp.cyc = true) :
    (nextState s).st =
        (if 20 < s.tc.toNat then .clkOff
          else if vstb s = true ∧ s.inp.cti ≠ 0b010#3 then .cleanup else .readAck) ∧
      (nextState s).tc.toNat = if vstb s = true then 0 else (s.tc.toNat + 1) % 64 := by
  have hregisters := (nextState_registers hrst).1
  rw [successor, hst] at hregisters
  have htc := nextState_tc hrst
  rw [hst] at htc
  exact ⟨by simpa [hcyc, vstb_eq] using hregisters, by simpa [vstb_eq] using htc⟩

/-- A gap that has not reached its 22nd cycle before the last beat has not passed it there. -/
theorem gapAfter_le {vs : List Bool} {g : Nat} (hg : g ≤ 21) (h : ∀ x ∈ gaps g vs, x ≤ 20) : gapAfter g vs ≤ 21 := by
  induction vs generalizing g with
  | nil => exact hg
  | cons v vs ih =>
    obtain ⟨hg20, hrest⟩ := List.forall_mem_cons.mp h
    refine ih ?_ hrest
    split <;> omega

/-- The cycles before the last beat or the timeout: READ-ACK throughout, an acknowledge at each strobe, and a counter that
tells how long the gap lasts. -/
theorem readAck_waits {vs : List Bool} {s : State} (hst : s.st = .readAck) (hrst : s.unreset vs.length)
    (hcyc : ∀ j < vs.length, (s.inputAt j).cyc = true)
    (hcti : ∀ j < vs.length, vs[j]? = some true → (s.inputAt j).cti = 0b010#3)
    (hgaps : ∀ g ∈ gaps s.tc.toNat vs, g ≤ 20) (hvs : traceOf vstb vs.length s = vs) :
    traceOf readRow vs.length s = List.zipWith (fun v g => (.readAck, v, g)) vs (gaps s.tc.toNat vs) ∧
      (nextState^[vs.length] s).st = .readAck ∧ (nextState^[vs.length] s).tc.toNat = gapAfter s.tc.toNat vs := by
  induction vs generalizing s with
  | nil => exact ⟨rfl, hst, rfl⟩
  | cons v vs ih =>
    obtain ⟨hg, hgaps⟩ := List.forall_mem_cons.mp hgaps
    obtain ⟨hv, hvs⟩ := List.cons.inj ((traceOf_succ vstb vs.length s).symm.trans hvs)
    have hrst0 : s.inp.rst = false := hrst 0 (Nat.succ_pos _)
    obtain ⟨hst', htc'⟩ := nextState_of_readAck hst hrst0 (hcyc 0 (Nat.succ_pos _))
    have hmore : ¬(vstb s = true ∧ s.inp.cti ≠ 0b010#3) := fun h =>
      h.2 (hcti 0 (Nat.succ_pos _) (by rw [List.getElem?_cons_zero, ← hv, h.1]))
    have hcount : (s.tc.toNat + 1) % 64 = s.tc.toNat + 1 := Nat.mod_eq_of_lt (by omega)
    rw [if_neg (by omega), if_neg hmore] at hst'
    rw [hv, hcount] at htc'
    obtain ⟨hrows, hstn, htcn⟩ := ih hst' (hrst.iterate (n := 1))
      (fun j hj => by rw [inputAt_nextState]; exact hcyc (j + 1) (Nat.succ_lt_succ hj))
      (fun j hj h => by rw [inputAt_nextState]; exact hcti (j + 1) (Nat.succ_lt_succ hj) h) (htc' ▸ hgaps) hvs
    rw [List.length_cons, Function.iterate_succ_apply, traceOf_succ, readRow_of_readAck hst hrst0, hv, hrows, htc']
    rw [htc'] at htcn
    exact ⟨rfl, hstn, htcn⟩

/-- The strobe of the cycle after the waiting ones. -/
theorem vstb_iterate_of_traceOf {vs : List Bool} {v : Bool} {s : State}
    (h : traceOf vstb (vs.length + 1) s = vs ++ [v]) :
    traceOf vstb vs.length s = vs ∧ vstb (nextState^[vs.length] s) = v := by
  rw [traceOf_add] at h
  have hlength : (traceOf vstb vs.length s).length = vs.length := by rw [traceOf_eq_map_range]; simp
  obtain ⟨hvs, hlast⟩ := List.append_inj h hlength
  exact ⟨hvs, List.head_eq_of_cons_eq hlast⟩

/-- A read up to the last beat or the timeout, and what the cycle after it finds. `v` tells which of the two it is. -/
theorem burstRead_until_last {vs : List Bool} {v : Bool} {s : State} (hst : s.st = .readAck) (htc : s.tc = 0#6)
    (hrst : s.unreset (vs.length + 19)) (hcyc : ∀ j ≤ vs.length, (s.inputAt j).cyc = true)
    (hcti : ∀ j < vs.length, vs[j]? = some true → (s.inputAt j).cti = 0b010#3) (hgaps : ∀ g ∈ gaps 0 vs, g ≤ 20)
    (hvs : traceOf vstb (vs.length + 1) s = vs ++ [v]) :
    ∃ t : State, t.unreset 18 ∧
      t.st =
        (if gapAfter 0 vs = 21 then .clkOff
          else if v = true ∧ (s.inputAt vs.length).cti ≠ 0b010#3 then .cleanup else .readAck) ∧
      t.tc.toNat = (if v = true then 0 else gapAfter 0 vs + 1) ∧
      ∀ n, traceOf readRow (vs.length + (n + 1)) s =
        List.zipWith (fun v g => (.readAck, v, g)) vs (gaps 0 vs) ++ [(.readAck, v, gapAfter 0 vs)] ++
          traceOf readRow n t := by
  have htc0 : s.tc.toNat = 0 := by rw [htc]; rfl
  have hle : gapAfter 0 vs ≤ 21 := gapAfter_le (Nat.zero_le _) hgaps
  obtain ⟨hvs, hv⟩ := vstb_iterate_of_traceOf hvs
  obtain ⟨hrows, hstn, htcn⟩ := readAck_waits hst (hrst.mono (Nat.le_add_right _ _)) (fun j hj => hcyc j hj.le) hcti
    (htc0 ▸ hgaps) hvs
  rw [htc0] at hrows htcn
  have hrstn : (nextState^[vs.length] s).unreset 19 := State.unreset.iterate (by rwa [Nat.add_comm])
  have hrst0 : (nextState^[vs.length] s).inp.rst = false := hrstn 0 (by decide)
  have hinp := inp_iterate_nextState s vs.length
  obtain ⟨hst', htc'⟩ := nextState_of_readAck hstn hrst0 (by rw [hinp]; exact hcyc _ le_rfl)
  rw [hinp, hv, htcn] at hst'
  rw [hv, htcn, Nat.mod_eq_of_lt (by omega)] at htc'
  have htimeout : 20 < gapAfter 0 vs ↔ gapAfter 0 vs = 21 := by omega
  rw [if_congr htimeout rfl rfl] at hst'
  refine ⟨_, hrstn.iterate (n := 1), hst', htc', fun n => ?_⟩
  rw [traceOf_add, hrows, traceOf_succ, readRow_of_readAck hstn hrst0, hv, htcn, List.append_assoc]
  rfl

/-- Settles O53: after the last beat comes the tail from CLEANUP, or from CLK-OFF where the beat met the timeout. -/
theorem burstReadCourse : Obligations.BurstReadCourse := by
  intro vs s hst htc hrst hcyc hcti hlast hgaps hvs
  change traceOf readRow _ s = _
  obtain ⟨t, htrst, htst, httc, hcourse⟩ := burstRead_until_last hst htc hrst hcyc hcti hgaps hvs
  rw [if_pos rfl] at httc
  rw [Nat.add_assoc]
  by_cases h21 : gapAfter 0 vs = 21
  · rw [if_pos h21] at htst
    rw [if_pos h21, if_pos h21, hcourse, traceOf_readRow_clkOff htst httc (htrst.mono (by decide))]
    simp only [List.append_assoc, List.cons_append, List.nil_append]
  · rw [if_neg h21, if_pos ⟨rfl, hlast⟩] at htst
    rw [if_neg h21, if_neg h21, hcourse, traceOf_readRow_cleanup htst httc (htrst.mono (by decide))]
    simp only [List.append_assoc, List.nil_append]

/-- Settles O54: after the 22nd cycle of the gap comes the tail from CLK-OFF, with the counter one higher. -/
theorem burstReadGapAborts : Obligations.BurstReadGapAborts := by
  intro vs s hst htc hrst hcyc hcti hgaps h21 hvs
  change traceOf readRow _ s = _
  obtain ⟨t, htrst, htst, httc, hcourse⟩ := burstRead_until_last hst htc hrst hcyc hcti hgaps hvs
  rw [if_pos h21] at htst
  rw [if_neg (by decide), h21] at httc
  rw [hcourse, h21, traceOf_readRow_clkOff htst httc (htrst.mono (by decide))]
  simp only [List.append_assoc]

/-- The counter of a gap without a strobe. -/
theorem gaps_replicate_false (k g : Nat) : gaps g (List.replicate k false) = List.range' g k := by
  induction k generalizing g with
  | zero => rfl
  | succ k ih => exact congrArg (g :: ·) (ih (g + 1))

theorem gapAfter_replicate_false (k g : Nat) : gapAfter g (List.replicate k false) = g + k := by
  induction k generalizing g with
  | zero => rfl
  | succ k ih => exact (ih (g + 1)).trans (Nat.succ_add_eq_add_succ g k)

/-- Settles O50: the burst read whose one beat comes after `k` cycles without a strobe, its counter left out. -/
theorem singleReadCourse : Obligations.SingleReadCourse := by
  intro k s hk hst htc hrst hcyc hlast hvs
  have hnone (j : Nat) : (List.replicate k false)[j]? ≠ some true := fun h => by
    simpa using List.mem_of_getElem? h
  have hgaps : ∀ g ∈ List.range' 0 k, g ≤ 20 := fun g hg => by
    rw [List.mem_range'_1] at hg
    omega
  have hcourse := burstReadCourse (List.replicate k false) s hst htc
  rw [List.length_replicate, gapAfter_replicate_false, Nat.zero_add, gaps_replicate_false] at hcourse
  have hpairs := congrArg (List.map fun row => (row.1, row.2.1))
    (hcourse hrst hcyc (fun j _ h => absurd h (hnone j)) hlast hgaps hvs)
  have hwaits : List.zipWith (fun v _ => (SeqState.readAck, v)) (List.replicate k false) (List.range' 0 k) =
      List.replicate k (SeqState.readAck, false) :=
    List.ext_getElem (by simp) (by simp)
  have hclkOff : (if k = 21 then [(SeqState.clkOff, false, 0)] else []).map (fun row => (row.1, row.2.1)) =
      if k = 21 then [(SeqState.clkOff, false)] else [] := by
    split <;> rfl
  rw [traceOf_map] at hpairs
  refine hpairs.trans ?_
  simp only [List.map_append, List.map_zipWith, List.map_map, Function.comp_def, hwaits, hclkOff]
  rfl

end Sys2Proof.Machine
end

section
/-! A burst write (42_transactions.md R153): the beats hold READ-WRITE, and each is on the lanes in the cycle after it. -/

namespace Sys2Proof.Machine

open Host

theorem ack_of_readWrite {s : State} (hst : s.st = .readWrite) (hrst : s.inp.rst = false) : ack s = s.inp.we := by
  simp [ack, hst, hrst]

theorem nextState_st_of_writeBeat {s : State} (hst : s.st = .readWrite) (hrst : s.inp.rst = false) (hwe : s.inp.we = true) :
    (nextState s).st = if s.inp.cti = 0b010#3 then .readWrite else .clkOff := by
  rw [(nextState_registers hrst).1, successor, hst]
  exact if_pos hwe

theorem nextState_lanes_of_writeBeat {s : State} (hst : s.st = .readWrite) (hrst : s.inp.rst = false)
    (hwe : s.inp.we = true) : (dqO (nextState s), rwdsO (nextState s)) = (s.inp.datW, ~~~s.inp.sel) := by
  obtain ⟨t, hstep, hdq, hrwds⟩ := step_writeBeat hrst hst hwe
  obtain rfl : nextState s = t := Outcome.next.inj ((step_eq_nextState s).symm.trans hstep)
  rw [hdq, hrwds]

/-- The beats before the last leave the machine in READ-WRITE. -/
theorem iterate_st_of_writeBeats {s : State} {j : Nat} (hst : s.st = .readWrite) (hrst : s.unreset j)
    (hwe : ∀ i < j, (s.inputAt i).we = true) (hcti : ∀ i < j, (s.inputAt i).cti = 0b010#3) :
    (nextState^[j] s).st = .readWrite := by
  induction j with
  | zero => exact hst
  | succ j ih =>
    have hj : (nextState^[j] s).st = .readWrite :=
      ih (hrst.mono j.le_succ) (fun i hi => hwe i (hi.trans j.lt_succ_self)) fun i hi => hcti i (hi.trans j.lt_succ_self)
    have hinp := inp_iterate_nextState s j
    rw [Function.iterate_succ_apply',
      nextState_st_of_writeBeat hj (hrst.rst j.lt_succ_self) (by rw [hinp]; exact hwe j j.lt_succ_self), hinp]
    exact if_pos (hcti j j.lt_succ_self)

/-- Settles O49: cycle by cycle, each a beat in READ-WRITE, with its word on the lanes in the next one. -/
theorem burstWriteCourse : Obligations.BurstWriteCourse := by
  intro k s hst hrst hwe hmore hlast
  have hbeat (j : Nat) (hj : j ≤ k) : (nextState^[j] s).st = .readWrite :=
    iterate_st_of_writeBeats hst (hrst.mono (by omega)) (fun i hi => hwe i (by omega)) fun i hi => hmore i (by omega)
  have hrstj (j : Nat) (hj : j ≤ k) : (nextState^[j] s).inp.rst = false := hrst.rst (by omega)
  have hwej (j : Nat) (hj : j ≤ k) : (nextState^[j] s).inp.we = true := by
    rw [inp_iterate_nextState]
    exact hwe j hj
  have hend : (nextState^[k + 1] s).st = .clkOff := by
    rw [Function.iterate_succ_apply', nextState_st_of_writeBeat (hbeat k le_rfl) (hrstj k le_rfl) (hwej k le_rfl),
      inp_iterate_nextState]
    exact if_neg hlast
  constructor
  · have hquiet : ack (nextState^[k + 1] s) = false := ack_eq_false (by rw [hend]; decide) (by rw [hend]; decide)
    rw [traceOf_add _ (k + 1) 1, traceOf_succ _ 0 (nextState^[k + 1] s), hend, hquiet]
    refine congrArg (· ++ [(SeqState.clkOff, false)]) (List.eq_replicate_iff.mpr ⟨?_, ?_⟩)
    · rw [traceOf_eq_map_range, List.length_map, List.length_range]
    · rw [traceOf_eq_map_range]
      refine List.forall_mem_map.mpr fun j hj => ?_
      have hjk : j ≤ k := Nat.le_of_lt_succ (List.mem_range.mp hj)
      rw [hbeat j hjk, ack_of_readWrite (hbeat j hjk) (hrstj j hjk), hwej j hjk]
  · rw [traceOf_succ, List.tail_cons, traceOf_eq_map_range]
    refine List.map_congr_left fun j hj => ?_
    have hjk : j ≤ k := Nat.le_of_lt_succ (List.mem_range.mp hj)
    rw [← Function.iterate_succ_apply, Function.iterate_succ_apply',
      nextState_lanes_of_writeBeat (hbeat j hjk) (hrstj j hjk) (hwej j hjk), inp_iterate_nextState]

end Sys2Proof.Machine
end

section
/-! What the invariant fixes of the shown row of a cycle (42_transactions.md R150): all of it, but for the word and the mask in
transit, the drivers of the data phase, the clock in CLK-OFF and the acknowledge. -/

namespace Sys2Proof.Machine

/-- The row of a cycle in state `st`, with the columns that the state fixes filled in. -/
def shownIn (st : SeqState) (s : State) : Shown :=
  match st with
  | .caSend => ⟨.caSend, true, false, false, false, 0#32, 0#4, false⟩
  | .caWait => ⟨.caWait, true, true, true, false, dqO s, 0#4, false⟩
  | .latencyWait => ⟨.latencyWait, true, true, true, false, dqO s, 0#4, false⟩
  | .latencyWait0 => ⟨.latencyWait0, true, true, false, false, 0#32, 0#4, false⟩
  | .latencyWait1 => ⟨.latencyWait1, true, true, false, false, 0#32, 0#4, false⟩
  | .latencyWait2 => ⟨.latencyWait2, true, true, false, false, 0#32, 0#4, false⟩
  | .latencyWait3 => ⟨.latencyWait3, true, true, false, false, 0#32, 0#4, false⟩
  | .readWrite => ⟨.readWrite, true, true, s.dqOe, s.dqOe, dqO s, rwdsO s, ack s⟩
  | .readAck => ⟨.readAck, true, true, s.dqOe, s.dqOe, 0#32, 0#4, ack s⟩
  | .clkOff => ⟨.clkOff, true, s.clkEn, s.dqOe, s.dqOe, dqO s, rwdsO s, false⟩
  | .cleanup => ⟨.cleanup, true, false, s.dqOe, s.dqOe, 0#32, 0#4, false⟩
  | st => quietShown st

theorem dqO_of_zero {s : State} (h : s.srOut = 0#64) : dqO s = 0#32 := by
  rw [dqO, h]; rfl

theorem rwdsO_of_zero {s : State} (h : s.srRwdsOut = 0#8) : rwdsO s = 0#4 := by
  rw [rwdsO, h]; rfl

theorem shown_of_inv {s : State} (h : s.Inv) : shown s = shownIn s.st s := by
  obtain ⟨hlevels, -, houtputs, -⟩ := (inv_iff s).mp h
  have hack (hrw : s.st ≠ .readWrite) (hra : s.st ≠ .readAck) : ack s = false := ack_eq_false hrw hra
  unfold shown shownIn
  cases hst : s.st
  all_goals
    rw [hst] at hlevels houtputs hack
    simp only [LevelsFit, OutputsFit, controls, shifters] at hlevels houtputs
    simp [hlevels, houtputs, hack, quietShown, dqO_of_zero, rwdsO_of_zero]

end Sys2Proof.Machine
end

section
/-! The first nine cycles of a transaction (42_transactions.md R150): the states follow one path, the command word goes out in
two cycles, and the drivers take `we` on the way into the data phase. -/

namespace Sys2Proof.Machine

/-- The states from the trigger to the data phase. -/
def commandPath : List SeqState :=
  [.caSend, .caWait, .latencyWait, .latencyWait0, .latencyWait1, .latencyWait2, .latencyWait3, .readWrite]

theorem isChain_commandPath : List.IsChain LeadsTo commandPath := by
  simp only [commandPath, List.isChain_cons_cons, List.isChain_singleton, and_true]
  refine ⟨?_, ?_, ?_, ?_, ?_, ?_, ?_⟩ <;> exact fun s h => by rw [successor, h]

/-- The state of each cycle of a path. -/
theorem iterate_st_of_path {path : List SeqState} {a b : SeqState} {s : State} {j : Nat}
    (hchain : List.IsChain LeadsTo (a :: path)) (hst : s.st = a) (hrst : s.unreset path.length)
    (hb : (a :: path)[j]? = some b) : (nextState^[j] s).st = b := by
  have hpath : traceOf State.st (path.length + 1) s = (a :: path).map id :=
    traceOf_path (shows := id) (P := fun _ => True) (R := fun _ => True) (fun _ _ _ => rfl) (fun _ _ _ _ => trivial) hchain
      (fun _ _ => trivial) hst trivial hrst
  have hj : j < path.length + 1 := (List.getElem?_eq_some_iff.mp hb).1
  rw [← List.map_id (a :: path), ← hpath, getElem?_traceOf State.st hj] at hb
  exact Option.some.inj hb

theorem nextState_st_of_trigger {s : State} (hst : s.st = .idle) (hrst : s.inp.rst = false) (hcyc : s.inp.cyc = true)
    (hstb : s.inp.stb = true) : (nextState s).st = .caSend := by
  rw [(nextState_registers hrst).1, successor, hst]
  exact if_pos ⟨hcyc, hstb⟩

/-- The states of the cycles of a transaction from its trigger on. -/
theorem iterate_st_of_trigger {s : State} {j : Nat} {b : SeqState} (hst : s.st = .idle) (hrst : s.unreset 9)
    (hcyc : (s.inputAt 0).cyc = true) (hstb : (s.inputAt 0).stb = true) (hb : (.idle :: commandPath)[j]? = some b) :
    (nextState^[j] s).st = b := by
  cases j with
  | zero => exact hst.trans (Option.some.inj hb)
  | succ j =>
    exact iterate_st_of_path (s := nextState s) isChain_commandPath
      (nextState_st_of_trigger hst (hrst 0 (by decide)) hcyc hstb)
      ((hrst.mono (by decide)).iterate (m := 7) (n := 1)) hb

/-- The command word is offered from its upper end, in the cycle after CA-SEND (R66, R92, R96). -/
theorem nextState_srOut_of_caSend {s : State} (hst : s.st = .caSend) (hrst : s.inp.rst = false) :
    (nextState s).srOut = caWord s.inp.we s.inp.adr ++ 0#16 := by
  have h := congrArg Shifters.srOut (nextState_registers hrst).2.2
  rwa [shiftersAfter, if_pos hst] at h

/-- A shift is the lower part of a word above zeros. -/
theorem shiftLeft_eq_append {m n : Nat} (x : BitVec (m + n)) : x <<< n = x.extractLsb' 0 m ++ 0#n := by
  simpa using (extractLsb'_append_eq_shiftLeft_or x 0#n).symm

/-- A cycle without a load offers the lower words of the output registers in the next one (R91, R93). -/
theorem nextState_lanes_of_shift {s : State} (hrst : s.inp.rst = false) (hca : s.st ≠ .caSend) (hrw : s.st ≠ .readWrite)
    (hhold : s.st ≠ .holdWait) :
    dqO (nextState s) = s.srOut.extractLsb' 0 32 ∧ rwdsO (nextState s) = s.srRwdsOut.extractLsb' 0 4 := by
  have hout := congrArg Shifters.srOut (nextState_registers hrst).2.2
  have hmask := congrArg Shifters.srRwdsOut (nextState_registers hrst).2.2
  simp only [shifters, shiftersAfter, hca, hrw, hhold, false_and, if_false] at hout hmask
  rw [dqO, hout, shiftLeft_eq_append (m := 32) (n := 32), rwdsO, hmask, shiftLeft_eq_append (m := 4) (n := 4)]
  exact ⟨BitVec.extractLsb'_append_eq_left, BitVec.extractLsb'_append_eq_left⟩

/-- The two words that carry a command word to the lanes (R66). -/
theorem extractLsb'_command_append (ca : BitVec 48) :
    (ca ++ 0#16).extractLsb' 32 32 = ca.extractLsb' 16 32 ∧
      (ca ++ 0#16).extractLsb' 0 32 = ca.extractLsb' 0 16 ++ 0#16 := by
  have hlow (w : BitVec 64) : w.extractLsb' 0 32 = w.extractLsb' 16 16 ++ w.extractLsb' 0 16 :=
    (BitVec.extractLsb'_append_extractLsb'_eq_extractLsb' (len₁ := 16) (len₂ := 16) rfl).symm
  refine ⟨BitVec.extractLsb'_append_eq_of_le (by decide), ?_⟩
  rw [hlow, BitVec.extractLsb'_append_eq_of_le (by decide), BitVec.extractLsb'_append_eq_right]

/-- The command word on the lanes, in the two cycles after CA-SEND. -/
theorem nextState_dqO_of_caSend {s : State} (hst : s.st = .caSend) (hrst : s.unreset 2) :
    dqO (nextState s) = (caWord s.inp.we s.inp.adr).extractLsb' 16 32 ∧
      dqO (nextState (nextState s)) = (caWord s.inp.we s.inp.adr).extractLsb' 0 16 ++ 0#16 := by
  have hrst0 : s.inp.rst = false := hrst 0 (by decide)
  have hrst1 : (nextState s).inp.rst = false := hrst.rst (j := 1) (by decide)
  have hcaWait : (nextState s).st = .caWait := by rw [(nextState_registers hrst0).1, successor, hst]
  have hshift := nextState_lanes_of_shift hrst1 (by rw [hcaWait]; decide) (by rw [hcaWait]; decide)
    (by rw [hcaWait]; decide)
  rw [dqO, hshift.1, nextState_srOut_of_caSend hst hrst0]
  exact extractLsb'_command_append _

theorem nextState_dqOe {s : State} (h : s.inp.rst = false) :
    (nextState s).dqOe = (controlsAfter s).dqOe := congrArg Controls.dqOe (nextState_registers h).2.1

/-- The way into the data phase (R118): both drivers take `we`, and the lanes carry nothing yet. -/
theorem nextState_of_latencyWait3 {s : State} (hinv : s.Inv) (hst : s.st = .latencyWait3) (hrst : s.inp.rst = false) :
    (nextState s).dqOe = s.inp.we ∧ dqO (nextState s) = 0#32 ∧ rwdsO (nextState s) = 0#4 := by
  have hdqOe := nextState_dqOe hrst
  rw [controlsAfter, hst] at hdqOe
  obtain ⟨hword, hmask⟩ := nextState_lanes_of_shift hrst (by simp [hst]) (by simp [hst]) (by simp [hst])
  rw [hinv.outZero (by simp [hst]) (by simp [hst]) (by simp [hst]) (by simp [hst])] at hword
  rw [hinv.maskZero (by simp [hst]) (by simp [hst])] at hmask
  exact ⟨hdqOe, hword, hmask⟩

/-- Settles O47: the states of the path with what the invariant fixes of their rows, the two words of the command, and the
drivers of the data phase. -/
theorem commonCourseOfATransaction : Obligations.CommonCourseOfATransaction := by
  intro s hinv hst hrst hcyc hstb
  have hst' {j : Nat} {b : SeqState} (hb : (.idle :: commandPath)[j]? = some b) : (nextState^[j] s).st = b :=
    iterate_st_of_trigger hst hrst hcyc hstb hb
  have hrow {j : Nat} {b : SeqState} (hb : (.idle :: commandPath)[j]? = some b) :
      shown (nextState^[j] s) = shownIn b (nextState^[j] s) := by
    rw [shown_of_inv (iterate_nextState_inv hinv j), hst' hb]
  have hnext (j : Nat) : nextState^[j + 1] s = nextState (nextState^[j] s) := Function.iterate_succ_apply' _ _ _
  have hcaSend : (nextState^[1] s).st = .caSend := hst' (j := 1) rfl
  have hlatencyWait3 : (nextState^[7] s).st = .latencyWait3 := hst' (j := 7) rfl
  have hreadWrite : (nextState^[8] s).st = .readWrite := hst' (j := 8) rfl
  obtain ⟨hupper, hlower⟩ := nextState_dqO_of_caSend hcaSend (State.unreset.iterate (m := 2) (hrst.mono (by decide)))
  rw [inp_iterate_nextState, ← hnext 1] at hupper
  rw [inp_iterate_nextState, ← hnext 1, ← hnext 2] at hlower
  obtain ⟨hdrivers, hempty, hnomask⟩ := nextState_of_latencyWait3 (iterate_nextState_inv hinv 7) hlatencyWait3
    (hrst.rst (by decide))
  rw [inp_iterate_nextState, ← hnext] at hdrivers
  rw [← hnext] at hempty hnomask
  have hack : ack (nextState^[8] s) = (s.inputAt 8).we := by
    rw [ack_of_readWrite hreadWrite (hrst.rst (by decide)), inp_iterate_nextState]
  rw [traceOf_eq_map_range]
  change [shown (nextState^[0] s), shown (nextState^[1] s), shown (nextState^[2] s), shown (nextState^[3] s),
    shown (nextState^[4] s), shown (nextState^[5] s), shown (nextState^[6] s), shown (nextState^[7] s),
    shown (nextState^[8] s)] = _
  rw [hrow (j := 0) rfl, hrow (j := 1) rfl, hrow (j := 2) rfl, hrow (j := 3) rfl, hrow (j := 4) rfl, hrow (j := 5) rfl,
    hrow (j := 6) rfl, hrow (j := 7) rfl, hrow (j := 8) rfl]
  simp only [shownIn, commonCourse, hupper, hlower, hdrivers, hempty, hnomask, hack]

end Sys2Proof.Machine
end

section
/-! The last beat of a write and the tail (42_transactions.md R151): the word and its mask are on the lanes in CLK-OFF, and the
device is deselected two cycles later. -/

namespace Sys2Proof.Machine

/-- The cycle after the last beat of a write. -/
theorem shown_nextState_of_lastBeat {s : State} (hinv : s.Inv) (hst : s.st = .readWrite) (hrst : s.inp.rst = false)
    (hwe : s.inp.we = true) (hcti : s.inp.cti ≠ 0b010#3) :
    shown (nextState s) = ⟨.clkOff, true, true, s.dqOe, s.dqOe, s.inp.datW, ~~~s.inp.sel, false⟩ := by
  have hst' : (nextState s).st = .clkOff := (nextState_st_of_writeBeat hst hrst hwe).trans (if_neg hcti)
  have hcontrols : controls (nextState s) = controls s := by
    rw [(nextState_registers hrst).2.1, controlsAfter, hst]
  have hclkEn : (nextState s).clkEn = true :=
    (congrArg Controls.clkEn hcontrols).trans (hinv.clockOn (by rw [hst]; decide))
  have hdqOe : (nextState s).dqOe = s.dqOe := congrArg Controls.dqOe hcontrols
  obtain ⟨hword, hmask⟩ := Prod.mk.inj (nextState_lanes_of_writeBeat hst hrst hwe)
  rw [shown_of_inv (nextState_inv hinv), hst']
  simp only [shownIn, hclkEn, hdqOe, hword, hmask]

/-- Nothing is shown in the hold ladder and in the IDLE cycle after it. -/
theorem traceOf_shown_holdWait {s : State} (hinv : s.Inv) (hst : s.st = .holdWait) (hrst : s.unreset 15) :
    traceOf shown 16 s = holdStates.map quietShown ++ [quietShown .idle] := by
  refine traceOf_path (P := State.Inv) (R := fun st => st ∈ holdStates ++ [.idle]) ?_ (fun u _ h _ => nextState_inv h)
    (a := .holdWait) (path := holdStates.tail ++ [SeqState.idle]) isChain_holdStates (fun _ h => h) hst hinv hrst
  intro u hu hquiet
  rw [shown_of_inv hu]
  revert hquiet
  cases u.st <;> simp [holdStates, shownIn]

/-- The tail from CLK-OFF, whatever CLK-OFF itself shows. -/
theorem traceOf_shown_clkOff {s : State} (hinv : s.Inv) (hst : s.st = .clkOff) (hrst : s.unreset 17) :
    traceOf shown 18 s =
      [shown s, ⟨.cleanup, true, false, s.dqOe, s.dqOe, 0#32, 0#4, false⟩] ++ holdStates.map quietShown ++
        [quietShown .idle] := by
  have hrst0 : s.inp.rst = false := hrst 0 (by decide)
  have hrst1 : (nextState s).unreset 16 := hrst.iterate (m := 16) (n := 1)
  have hcleanup : (nextState s).st = .cleanup := by rw [(nextState_registers hrst0).1, successor, hst]
  have hdqOe : (nextState s).dqOe = s.dqOe := by
    rw [nextState_dqOe hrst0, controlsAfter, hst]
    rfl
  have hrow : shown (nextState s) = ⟨.cleanup, true, false, s.dqOe, s.dqOe, 0#32, 0#4, false⟩ := by
    rw [shown_of_inv (nextState_inv hinv), hcleanup, ← hdqOe]
    rfl
  have hholdWait : (nextState (nextState s)).st = .holdWait := by
    rw [(nextState_registers (hrst1 0 (by decide))).1, successor, hcleanup]
  rw [traceOf_succ, traceOf_succ, hrow,
    traceOf_shown_holdWait (nextState_inv (nextState_inv hinv)) hholdWait (hrst1.iterate (m := 15) (n := 1))]
  rfl

/-- Settles O48: the nine common cycles, the last of them the one beat, and the tail from CLK-OFF. -/
theorem singleWriteCourse : Obligations.SingleWriteCourse := by
  intro s hinv hst hrst hcyc hstb hwe1 hwe7 hwe8 hcti
  have hcommon := commonCourseOfATransaction s hinv hst (hrst.mono (by decide)) hcyc hstb
  rw [hwe1, hwe7, hwe8] at hcommon
  have hinv8 : (nextState^[8] s).Inv := iterate_nextState_inv hinv 8
  have hbeat : shown (nextState^[8] s) = ⟨.readWrite, true, true, true, true, 0#32, 0#4, true⟩ := by
    have hrow := congrArg (fun rows => rows[8]?) hcommon
    rw [getElem?_traceOf shown (by decide)] at hrow
    exact Option.some.inj hrow
  have hst8 : (nextState^[8] s).st = .readWrite := congrArg Shown.st hbeat
  have hdqOe8 : (nextState^[8] s).dqOe = true := congrArg Shown.dqOe hbeat
  have hnext : nextState^[9] s = nextState (nextState^[8] s) := Function.iterate_succ_apply' _ _ _
  have hlast := shown_nextState_of_lastBeat hinv8 hst8 (hrst.rst (by decide)) (by rwa [inp_iterate_nextState])
    (by rwa [inp_iterate_nextState])
  rw [← hnext, inp_iterate_nextState, hdqOe8] at hlast
  have hdqOe9 : (nextState^[9] s).dqOe = true := congrArg Shown.dqOe hlast
  rw [traceOf_add _ 9 18, hcommon, traceOf_shown_clkOff (iterate_nextState_inv hinv 9) (congrArg Shown.st hlast)
    ((hrst.mono (by decide)).iterate (m := 17)), hlast, hdqOe9]
  simp only [List.append_assoc]

end Sys2Proof.Machine
end

section
/-! The gate of the device clock (43_phy.md R180). -/

namespace Sys2Proof.Machine

theorem clockGate_iff {s : State} : clockGate s = true ↔ s.clkEn = true ∧ s.cs = true := by
  simp [clockGate, clkEnable, csn]

theorem selectedIn_of_clockedIn {st : SeqState} (h : clockedIn st = true) : selectedIn st = true := by
  simp only [clockedIn, selectedIn, decide_eq_true_eq] at h ⊢
  omega

/-- In every run the clock is enabled only while the device is selected: in the clocked states, and in CLK-OFF at most
(R142a, R142b). -/
theorem State.Inv.cs_of_clkEn {s : State} (h : s.Inv) (hclk : s.clkEn = true) : s.cs = true := by
  rw [h.selected]
  by_cases hon : clockedIn s.st = true
  · exact selectedIn_of_clockedIn hon
  · have hclkOff : s.st = .clkOff := by
      by_contra hne
      exact absurd hclk (by simp [h.clockOff (Bool.eq_false_iff.mpr hon) hne])
    rw [hclkOff]
    rfl

/-- Settles O40: under the invariant an enabled clock is that of a selected device. -/
theorem clockGateIsClockEnable : Obligations.ClockGateIsClockEnable := by
  refine fun s h => ⟨rfl, Bool.eq_iff_iff.mpr ?_⟩
  rw [clockGate_iff]
  exact and_iff_left_of_imp h.cs_of_clkEn

end Sys2Proof.Machine
end

section
/-! The pipelines of the serialization layer over a run without reset (10_state.md R29, 43_phy.md R172 to R179): what comes out
of each is what was in it and what went in, in order. The pins of a bit-time are made of what comes out in it. -/

namespace Sys2Proof.Machine

/-- The controls that reach the lane drivers in a cycle (R176). -/
def ctlWord (s : State) : Quad CtlSample := (passFour s.ctlPipe (ctlSamples s)).1

/-- The lane samples that leave the transmit gearbox in a cycle (R172, R173). -/
def txWord (s : State) : Quad LaneSample := (passFour s.txPipe (txSamples s)).1

/-- The clock pattern that leaves its pipeline in a cycle (R179). -/
def ckWord (s : State) : Quad Bool := (passFour s.ckPipe (ckSamples s)).1

theorem nextState_pipes {s : State} (h : s.inp.rst = false) :
    (nextState s).ctlPipe = (passFour s.ctlPipe (ctlSamples s)).2 ∧
      (nextState s).txPipe = (passFour s.txPipe (txSamples s)).2 ∧
      (nextState s).ckPipe = (passFour s.ckPipe (ckSamples s)).2 ∧
      (nextState s).rxPipe = (passFour s.rxPipe s.inp.rx).2 := by
  rw [nextState, finishCycle_of_rst_eq_false h]
  exact ⟨rfl, rfl, rfl, rfl⟩

/-- A pipeline that every cycle without reset passes four bit-times through is a pure delay of its content's length. -/
theorem flatten_traceOf_passFour {α : Type} {pipe : State → List α} {enters : State → Quad α}
    (hpipe : ∀ u : State, u.inp.rst = false → pipe (nextState u) = (passFour (pipe u) (enters u)).2)
    {n : Nat} {s : State} (hrst : s.unreset n) :
    (traceOf (fun u => (passFour (pipe u) (enters u)).1.toList) n s).flatten =
      (pipe s ++ (traceOf (fun u => (enters u).toList) n s).flatten).take (4 * n) := by
  induction n generalizing s with
  | zero => rfl
  | succ n ih =>
    have hlater := ih (hrst.iterate (m := n) (n := 1))
    have hnow := passFour_append (pipe s) (enters s)
    have hfour : 4 * (n + 1) = (passFour (pipe s) (enters s)).1.toList.length + 4 * n := Nat.add_comm _ _
    rw [Function.iterate_one, hpipe s (hrst 0 n.succ_pos)] at hlater
    rw [traceOf_succ, traceOf_succ, List.flatten_cons, List.flatten_cons, hlater, ← List.append_assoc (pipe s), ← hnow,
      List.append_assoc, hfour, List.take_length_add_append]

/-- Two traces of four bit-times a cycle, taken together bit-time by bit-time, are so within each cycle. -/
theorem flatten_traceOf_zipWith {α β γ : Type} (f : α → β → γ) (a : State → Quad α) (b : State → Quad β) (n : Nat)
    (s : State) :
    (traceOf (fun u => List.zipWith f (a u).toList (b u).toList) n s).flatten =
      List.zipWith f (traceOf (fun u => (a u).toList) n s).flatten (traceOf (fun u => (b u).toList) n s).flatten := by
  induction n generalizing s with
  | zero => rfl
  | succ n ih =>
    have hlength : (a s).toList.length = (b s).toList.length := rfl
    simp only [traceOf_succ, List.flatten_cons, ih, List.zipWith_append hlength]

/-- A value read off each bit-time of a run, cycle by cycle. -/
theorem map_flatten_traceOf {α β : Type} (g : α → β) (f : State → List α) (n : Nat) (s : State) :
    (traceOf f n s).flatten.map g = (traceOf (fun u => (f u).map g) n s).flatten := by
  rw [List.map_flatten, traceOf_map]

/-- What the clock generator is given in a cycle, by the two registers that open the gate (R180). -/
theorem toList_ckSamples (s : State) :
    (ckSamples s).toList =
      if s.clkEn = true ∧ s.cs = true then [true, false, true, false] else List.replicate 4 false := by
  rw [ckSamples, apply_ite Quad.toList, if_congr clockGate_iff rfl rfl]
  rfl

theorem flatten_traceOf_ctlWord {n : Nat} {s : State} (hrst : s.unreset n) :
    (traceOf (fun u => (ctlWord u).toList) n s).flatten =
      (s.ctlPipe ++
        (traceOf (fun u => List.replicate 4 (⟨!u.cs, u.dqOe, u.rwdsOe⟩ : CtlSample)) n s).flatten).take (4 * n) :=
  flatten_traceOf_passFour (fun _ h => (nextState_pipes h).1) hrst

theorem flatten_traceOf_txWord {n : Nat} {s : State} (hrst : s.unreset n) :
    (traceOf (fun u => (txWord u).toList) n s).flatten =
      (s.txPipe ++ (traceOf (fun u => (laneSamples (dqO u) (rwdsO u)).toList) n s).flatten).take (4 * n) :=
  flatten_traceOf_passFour (fun _ h => (nextState_pipes h).2.1) hrst

theorem flatten_traceOf_ckWord {n : Nat} {s : State} (hrst : s.unreset n) :
    (traceOf (fun u => (ckWord u).toList) n s).flatten =
      (s.ckPipe ++
        (traceOf (fun u => if u.clkEn = true ∧ u.cs = true then [true, false, true, false] else List.replicate 4 false)
          n s).flatten).take (4 * n) := by
  simp only [← toList_ckSamples]
  exact flatten_traceOf_passFour (fun _ h => (nextState_pipes h).2.2.1) hrst

theorem flatten_traceOf_rxWord {n : Nat} {s : State} (hrst : s.unreset n) :
    (traceOf (fun u => (rxWord u).toList) n s).flatten =
      (s.rxPipe ++ (traceOf (fun u => u.inp.rx.toList) n s).flatten).take (4 * n) :=
  flatten_traceOf_passFour (fun _ h => (nextState_pipes h).2.2.2) hrst

/-- Settles O36: each pin is read off the samples that leave its pipelines, cycle by cycle. -/
theorem pinsAreThePureDelayOfTheInterface : Obligations.PinsAreThePureDelayOfTheInterface := by
  intro n s hrst
  dsimp only
  rw [← flatten_traceOf_ctlWord hrst, ← flatten_traceOf_txWord hrst, ← flatten_traceOf_ckWord hrst]
  simp only [map_flatten_traceOf, ← flatten_traceOf_zipWith]
  exact ⟨rfl, rfl, rfl, rfl, rfl⟩

/-- Settles O37: the received words are the samples that leave the receive gearbox, in the lane formats. -/
theorem receiveIsAPureDelay : Obligations.ReceiveIsAPureDelay := by
  intro n s hrst
  have hword (u : State) : laneSamples (dqI u) (rwdsI u) = rxWord u := laneFormatsInvert.2 (rxWord u)
  simp only [hword]
  exact flatten_traceOf_rxWord hrst

end Sys2Proof.Machine
end

section
/-! The delay lines and their controls (43_phy.md R181 to R183): a cycle carries them along and reads them for nothing else. -/

namespace Sys2Proof.Machine

/-- The delay-line positions, the remembered moves and the delay-control records. -/
structure Delays where
  ioLines : IoLines
  clkLines : ClkLines
  ioMove : Bool
  clkMove : Bool
  dlyIo : DlyRecord
  dlyClk : DlyRecord

/-- The state with other delay lines and delay controls. -/
def State.withDelays (s : State) (d : Delays) : State :=
  { s with
    ioLines := d.ioLines
    clkLines := d.clkLines
    ioMove := d.ioMove
    clkMove := d.clkMove
    inp := { s.inp with dlyIo := d.dlyIo, dlyClk := d.dlyClk } }

/-- The state with other delay lines and remembered moves, its records as they are. -/
def State.withLines (s : State) (d : Delays) : State :=
  { s with ioLines := d.ioLines, clkLines := d.clkLines, ioMove := d.ioMove, clkMove := d.clkMove }

/-- The delay operations of a cycle change the delay lines and the remembered moves alone. -/
theorem exists_dlyCycles_eq_withDelays (s : State) :
    ∃ d, dlyCycle .clk (dlyCycle .io s) = s.withDelays d :=
  ⟨⟨_, _, _, _, _, _⟩, rfl⟩

/-- None of the sequencer's registers depends on the delays. -/
theorem sequencerCycle_withDelays (s : State) (d : Delays) :
    sequencerCycle (s.withDelays d) = (sequencerCycle s).withDelays d := by
  have hst : (s.withDelays d).st = s.st := rfl
  have hwe : (s.withDelays d).inp.we = s.inp.we := rfl
  have hcause : abortCause (s.withDelays d) = abortCause s := rfl
  unfold sequencerCycle
  rw [hst]
  cases s.st with
  | readWrite => unfold readWriteCycle; rw [hwe]; cases s.inp.we <;> rfl
  | readAck => unfold readAckCycle; rw [hcause]; cases abortCause s <;> rfl
  | _ => rfl

/-- The end of a cycle leaves the delay lines as the cycle made them, and the next inputs bring records of their own. -/
theorem finishCycle_withDelays (s p : State) (d e : Delays) :
    finishCycle (s.withDelays d) (p.withDelays e) = (finishCycle s p).withLines e := by
  have hrst : (s.withDelays d).inp.rst = s.inp.rst := rfl
  unfold finishCycle
  rw [hrst]
  cases s.inp.rst <;> rfl

/-- Whatever the delays are, a step goes to the same state but for the delay lines and the remembered moves. -/
theorem exists_nextState_withDelays (s : State) (d : Delays) :
    ∃ e, nextState (s.withDelays d) = (finishCycle s (sequencerCycle s)).withLines e := by
  obtain ⟨e, he⟩ := exists_dlyCycles_eq_withDelays (s.withDelays d)
  have hover : (s.withDelays d).withDelays e = s.withDelays e := rfl
  refine ⟨e, ?_⟩
  calc nextState (s.withDelays d)
      = finishCycle (s.withDelays d) (sequencerCycle (s.withDelays e)) := by rw [nextState, he, hover]
    _ = (finishCycle s (sequencerCycle s)).withLines e := by rw [sequencerCycle_withDelays, finishCycle_withDelays]

/-- Settles O46: no output reads the delays, and both steps go to the state that the sequencer alone makes, each with delay
lines of its own. -/
theorem delayLinesAreTransparent : Obligations.DelayLinesAreTransparent := by
  intro s a b c d x y s'
  obtain ⟨e, ht⟩ := exists_nextState_withDelays s ⟨s.ioLines, s.clkLines, s.ioMove, s.clkMove, s.inp.dlyIo, s.inp.dlyClk⟩
  obtain ⟨e', ht'⟩ := exists_nextState_withDelays s ⟨a, b, c, d, x, y⟩
  exact ⟨rfl, rfl, _, _, (step_eq_nextState s).trans (congrArg _ ht), (step_eq_nextState s').trans (congrArg _ ht'), rfl⟩

end Sys2Proof.Machine
end

section
/-! The two aborts (60_exceptions.md R201 to R210): the timeout of a read without a strobe, and the cancelled read. Both go
through the tail from CLK-OFF. -/

namespace Sys2Proof.Machine

/-- A course of rows without the column of the timeout counter. -/
theorem traceOf_st_ack_of_readRow {n : Nat} {s : State} {rows : List (SeqState × Bool × Nat)}
    (h : traceOf readRow n s = rows) :
    traceOf (fun u => (u.st, ack u)) n s = rows.map fun row => (row.1, row.2.1) := by
  rw [← h, traceOf_map]
  rfl

/-- A host that drops `cyc` ends the read in that cycle, strobe or not (R202, R203). -/
theorem nextState_st_of_cancel {s : State} (hst : s.st = .readAck) (hrst : s.inp.rst = false) (hcyc : s.inp.cyc = false) :
    (nextState s).st = .clkOff := by
  rw [(nextState_registers hrst).1, successor, hst]
  exact if_pos (.inl hcyc)

/-- Settles O51: a gap of 22 cycles that begins with the read, so no beat comes before the abort. -/
theorem readTimeoutCourse : Obligations.ReadTimeoutCourse := by
  intro s hst htc hrst hcyc hvs
  have hnone (j : Nat) (_ : j < 21) (h : (List.replicate 21 false)[j]? = some true) : (s.inputAt j).cti = 0b010#3 :=
    absurd (List.eq_of_mem_replicate (List.mem_of_getElem? h)) (by decide)
  have hcourse := burstReadGapAborts (List.replicate 21 false) s hst htc
  rw [List.length_replicate] at hcourse
  exact traceOf_st_ack_of_readRow
    (hcourse hrst (fun j hj => hcyc j (Nat.lt_succ_of_le hj)) hnone (by decide) (gapAfter_replicate_false 21 0) hvs)

/-- Settles O52: the cycle after the abort is CLK-OFF, and from there no input chooses the successor. -/
theorem cancelCourse : Obligations.CancelCourse := by
  intro s hst hrst hcyc
  have hclkOff : (nextState s).st = .clkOff := nextState_st_of_cancel hst (hrst 0 (by decide)) hcyc
  have htail := traceOf_readRow_clkOff hclkOff rfl ((hrst.mono (by decide)).iterate (m := 17) (n := 1))
  rw [traceOf_succ, List.tail_cons]
  exact traceOf_st_ack_of_readRow htail

end Sys2Proof.Machine
end

section
/-! Reset (70_reset_and_hazards.md R230, R231): the cycles that reset the machine, and the state they leave it in. -/

namespace Sys2Proof.Machine

/-- Settles O12: the registers after a step with reset, whatever the sequencer's cycle made of them, and an acknowledge that
`rst` gates off. -/
theorem rstOverridesEverything : Obligations.RstOverridesEverything := by
  intro s hrst
  have hack : ack s = false := by simp [ack, hrst]
  obtain ⟨t, hstep⟩ := stepNeverStops s
  obtain ⟨hst, hcontrols, hshifters⟩ := step_registers_of_rst hrst hstep
  obtain ⟨hcs, hclkEn, hdqOe, hrwdsOe, htc⟩ := Controls.mk.inj hcontrols
  obtain ⟨hsrOut, hsrRwdsOut, hsrIn, hsrRwdsIn⟩ := Shifters.mk.inj hshifters
  exact ⟨hack, t, hstep, hst, hcs, hclkEn, hdqOe, hrwdsOe, hsrOut, hsrIn, hsrRwdsOut, hsrRwdsIn, htc⟩

/-- A delay whose content is the one sample that goes in gives out that sample. -/
theorem passFour_same {α : Type} {q : List α} {x : α} (h : ∀ a ∈ q, a = x) : (passFour q (Quad.same x)).1 = Quad.same x := by
  have hout {a : α} (ha : a ∈ (passFour q (Quad.same x)).1.toList) : a = x := by
    have hmem : a ∈ q ++ (Quad.same x).toList := passFour_append q (Quad.same x) ▸ List.mem_append_left _ ha
    obtain hq | hx := List.mem_append.mp hmem
    · exact h a hq
    · simpa [Quad.toList, Quad.same] using hx
  generalize (passFour q (Quad.same x)).1 = out at hout
  obtain ⟨a, b, c, d⟩ := out
  simp only [Quad.toList, List.mem_cons, List.not_mem_nil, or_false] at hout
  obtain rfl : a = x := hout (.inl rfl)
  obtain rfl : b = a := hout (.inr (.inl rfl))
  obtain rfl : c = b := hout (.inr (.inr (.inl rfl)))
  obtain rfl : d = c := hout (.inr (.inr (.inr rfl)))
  rfl

/-- The pins of a cycle that offers the same samples in its four bit-times as are on their way already. -/
theorem pins_eq_same {s : State} {c : CtlSample} {l : LaneSample} {k : Bool} (hctl : ctlSamples s = Quad.same c)
    (htx : txSamples s = Quad.same l) (hck : ckSamples s = Quad.same k) (hctlPipe : ∀ x ∈ s.ctlPipe, x = c)
    (htxPipe : ∀ x ∈ s.txPipe, x = l) (hckPipe : ∀ x ∈ s.ckPipe, x = k) : pins s = Quad.same (pinState c l k) := by
  rw [pins, hctl, htx, hck, passFour_same hctlPipe, passFour_same htxPipe, passFour_same hckPipe]
  rfl

/-- The read window with nothing captured yet (R99): this cycle's upper half-word below zeros. -/
theorem datR_of_srIn_eq_zero {s : State} (h : s.srIn = 0#64) : datR s = 0#16 ++ (dqI s).extractLsb' 16 16 := by
  have hword : (dqI s).extractLsb' 16 16 = (dqI s).extractLsb' 24 8 ++ (dqI s).extractLsb' 16 8 :=
    (BitVec.extractLsb'_append_extractLsb'_eq_extractLsb' (len₁ := 8) (len₂ := 8) rfl).symm
  have hzero : (0#64).extractLsb' 8 8 ++ (0#64).extractLsb' 0 8 = 0#16 := rfl
  rw [datR_eq, h, hword, ← hzero]
  exact BitVec.append_assoc

/-- Settles O11: the registers and pipelines are those of the reset state whatever the inputs are, and the pins carry what the
pipelines hold and the idle machine offers. -/
theorem resetState : Obligations.ResetState := by
  intro i _ s
  have hctl : ∀ x ∈ s.ctlPipe, x = ⟨true, false, false⟩ := fun _ => List.eq_of_mem_replicate
  have htx : ∀ x ∈ s.txPipe, x = ⟨0#8, false⟩ := fun _ => List.eq_of_mem_replicate
  have hrx : ∀ x ∈ s.rxPipe, x = ⟨0#8, false⟩ := fun _ => List.eq_of_mem_replicate
  have hck : ∀ x ∈ s.ckPipe, x = false := fun _ => List.eq_of_mem_replicate
  have hoffers : txSamples s = Quad.same ⟨0#8, false⟩ := by
    rw [txSamples, dqO_of_zero rfl, rwdsO_of_zero rfl]
    decide
  have hpins : pins s = Quad.same (pinState ⟨true, false, false⟩ ⟨0#8, false⟩ false) :=
    pins_eq_same rfl hoffers rfl hctl htx hck
  have hack : ack s = false := ack_eq_false nofun nofun
  refine ⟨rfl, rfl, rfl, rfl, rfl, rfl, rfl, rfl, rfl, rfl, rfl, rfl, dqO_of_zero rfl, rwdsO_of_zero rfl, hack,
    datR_of_srIn_eq_zero rfl, rfl, rfl, rfl, htx, hrx, hck, fun p hp => ?_⟩
  rw [hpins] at hp
  exact List.eq_of_mem_replicate (n := 4) hp

end Sys2Proof.Machine
end

section
/-! How long the device is selected (70_reset_and_hazards.md R251): CLEANUP alone deselects it (41_sequencer.md R122), and no
transaction comes there before the ninth cycle after CA-SEND. -/

namespace Sys2Proof.Machine

theorem nextState_cs {s : State} (h : s.inp.rst = false) :
    (nextState s).cs =
      (if s.st = .idle ∧ s.inp.cyc = true ∧ s.inp.stb = true then true
        else if s.st = .cleanup then false else s.cs) :=
  (congrArg Controls.cs (nextState_registers h).2.1).trans (controlsAfter_cs s)

/-- A selected device stays selected until CLEANUP. -/
theorem iterate_cs_of_no_cleanup {s : State} {n : Nat} (hcs : s.cs = true) (hrst : s.unreset n)
    (hst : ∀ j < n, (nextState^[j] s).st ≠ .cleanup) : (nextState^[n] s).cs = true := by
  induction n with
  | zero => exact hcs
  | succ n ih =>
    have hn : (nextState^[n] s).cs = true :=
      ih (hrst.mono n.le_succ) fun j hj => hst j (hj.trans n.lt_succ_self)
    rw [Function.iterate_succ_apply', nextState_cs (hrst.rst n.lt_succ_self), if_neg (hst n n.lt_succ_self), hn, ite_self]

/-- READ-WRITE goes on, or goes to CLK-OFF or to READ-ACK (R119). -/
theorem successor_ne_cleanup_of_readWrite {s : State} (hst : s.st = .readWrite) : successor s ≠ .cleanup := by
  rw [successor, hst]
  dsimp only
  split
  · split <;> decide
  · decide

/-- The states of the first eight cycles from CA-SEND on. -/
theorem iterate_st_of_caSend {s : State} {j : Nat} {b : SeqState} (hst : s.st = .caSend) (hrst : s.unreset 7)
    (hb : commandPath[j]? = some b) : (nextState^[j] s).st = b :=
  iterate_st_of_path isChain_commandPath hst hrst hb

/-- The nine cycles from CA-SEND on are the command path and one more. -/
theorem iterate_st_ne_cleanup {s : State} {j : Nat} (hst : s.st = .caSend) (hrst : s.unreset 8) (hj : j < 9) :
    (nextState^[j] s).st ≠ .cleanup := by
  have hrst7 : s.unreset 7 := hrst.mono (by decide)
  obtain hlt | rfl : j < 8 ∨ j = 8 := by omega
  · have hnone : ∀ b ∈ commandPath, b ≠ .cleanup := by decide
    rw [iterate_st_of_caSend hst hrst7 (List.getElem?_eq_getElem hlt)]
    exact hnone _ (List.getElem_mem hlt)
  · rw [Function.iterate_succ_apply', (nextState_registers (hrst.rst (by decide))).1]
    exact successor_ne_cleanup_of_readWrite (iterate_st_of_caSend (j := 7) hst hrst7 rfl)

theorem traceOf_csn_ten {s : State} (hst : s.st = .caSend) (hcs : s.cs = true) (hrst : s.unreset 10) :
    traceOf csn 10 s = List.replicate 10 false := by
  rw [traceOf_eq_map_range]
  refine List.eq_replicate_iff.mpr ⟨by simp, List.forall_mem_map.mpr fun j hj => ?_⟩
  have hj10 : j < 10 := List.mem_range.mp hj
  have hselected : (nextState^[j] s).cs = true :=
    iterate_cs_of_no_cleanup hcs (hrst.mono hj10.le) fun k hk =>
      iterate_st_ne_cleanup hst (hrst.mono (by decide)) (by omega)
  rw [csn, hselected, Bool.not_true]

/-- A trace ends with what its last cycle shows. -/
theorem traceOf_succ_eq_append {α : Type} (f : State → α) (n : Nat) (s : State) :
    traceOf f (n + 1) s = traceOf f n s ++ [f (nextState^[n] s)] := by
  rw [traceOf_add, traceOf_succ]
  rfl

/-- CLEANUP in the tenth cycle deselects the device in the eleventh. -/
theorem traceOf_csn_eleven {s : State} (hst : s.st = .caSend) (hcs : s.cs = true) (hrst : s.unreset 10)
    (hcleanup : (nextState^[9] s).st = .cleanup) : traceOf csn 11 s = List.replicate 10 false ++ [true] := by
  have hdeselected : (nextState^[10] s).cs = false := by
    rw [Function.iterate_succ_apply', nextState_cs (hrst.rst (by decide)), hcleanup]
    rfl
  rw [traceOf_succ_eq_append, traceOf_csn_ten hst hcs hrst, csn, hdeselected, Bool.not_false]

/-- A run keeps the timeout counter within the limits of its states. -/
theorem iterate_tc_le_tcLimit {s : State} {n : Nat} (h : s.tc.toNat ≤ tcLimit s.st) (hrst : s.unreset n) :
    (nextState^[n] s).tc.toNat ≤ tcLimit (nextState^[n] s).st := by
  induction n with
  | zero => exact h
  | succ n ih =>
    obtain ⟨hst, hcontrols, -⟩ := nextState_registers (hrst.rst n.lt_succ_self)
    have htc : (nextState (nextState^[n] s)).tc = (controlsAfter (nextState^[n] s)).tc := congrArg Controls.tc hcontrols
    rw [Function.iterate_succ_apply', hst, htc]
    exact tc_le_tcLimit_successor (ih (hrst.mono n.le_succ))

/-- A read comes to its first READ-ACK cycle with the counter that CA-WAIT has cleared (R104, R113). -/
theorem iterate_readAck_of_caSend {s : State} (hst : s.st = .caSend) (hrst : s.unreset 8)
    (hwe : (s.inputAt 7).we = false) : (nextState^[8] s).st = .readAck ∧ (nextState^[8] s).tc.toNat = 0 := by
  have hrst7 : s.unreset 7 := hrst.mono (by decide)
  have hreadWrite : (nextState^[7] s).st = .readWrite := iterate_st_of_caSend hst hrst7 rfl
  have hcaWait : (nextState^[1] s).st = .caWait := iterate_st_of_caSend hst hrst7 rfl
  have hcleared : (nextState^[2] s).tc.toNat = 0 := by
    rw [Function.iterate_succ_apply', nextState_tc (hrst.rst (by decide)), if_pos hcaWait]
  have hwaits : (nextState^[7] s).tc.toNat = 0 := by
    have hlimit := iterate_tc_le_tcLimit (n := 5) (hcleared.trans_le (Nat.zero_le _))
      ((hrst.mono (by decide)).iterate (n := 2))
    rw [← Function.iterate_add_apply nextState 5 2, hreadWrite] at hlimit
    exact Nat.le_zero.mp hlimit
  have hrstBeat : (nextState^[7] s).inp.rst = false := hrst.rst (by decide)
  constructor
  · rw [Function.iterate_succ_apply', (nextState_registers hrstBeat).1, successor, hreadWrite, inp_iterate_nextState, hwe]
    rfl
  · rw [Function.iterate_succ_apply', nextState_tc hrstBeat, hreadWrite, hwaits]
    rfl

/-- Settles O56: ten cycles without a CLEANUP before the last, and a CLEANUP in the tenth where the one beat of a write or the
strobe of the first READ-ACK cycle ends the transaction. -/
theorem deviceSelectedForTenCycles : Obligations.DeviceSelectedForTenCycles := by
  intro s hst hcs hrst
  have hrst7 : (nextState^[7] s).inp.rst = false := hrst.rst (by decide)
  have hrst8 : (nextState^[8] s).inp.rst = false := hrst.rst (by decide)
  have hinp7 : (nextState^[7] s).inp = s.inputAt 7 := inp_iterate_nextState s 7
  have hinp8 : (nextState^[8] s).inp = s.inputAt 8 := inp_iterate_nextState s 8
  refine ⟨traceOf_csn_ten hst hcs hrst, fun hwe hcti => ?_, fun hwe hcyc hcti hstrobe => ?_⟩
  · have hreadWrite : (nextState^[7] s).st = .readWrite :=
      iterate_st_of_caSend hst (hrst.mono (by decide)) rfl
    have hclkOff : (nextState^[8] s).st = .clkOff := by
      rw [Function.iterate_succ_apply', nextState_st_of_writeBeat hreadWrite hrst7 (by rwa [hinp7]), hinp7, if_neg hcti]
    refine traceOf_csn_eleven hst hcs hrst ?_
    rw [Function.iterate_succ_apply', (nextState_registers hrst8).1, successor, hclkOff]
  · obtain ⟨hreadAck, htc⟩ := iterate_readAck_of_caSend hst (hrst.mono (by decide)) hwe
    have hvstb : vstb (nextState^[8] s) = true := by
      rw [traceOf_succ_eq_append, List.getLast?_concat] at hstrobe
      exact Option.some.inj hstrobe
    have hnext := (nextState_of_readAck hreadAck hrst8 (by rwa [hinp8])).1
    rw [htc, if_neg (by decide), hinp8, if_pos ⟨hvstb, hcti⟩] at hnext
    exact traceOf_csn_eleven hst hcs hrst ((congrArg State.st (Function.iterate_succ_apply' _ _ _)).trans hnext)

end Sys2Proof.Machine
end
